-- ==== Sys2Proof/Word.lean ====
section
/-! DEFINITION. The words of the engine, each with the width the spec gives it (00_scope.md R6,
30_encoding.md R56). `sint_n` of R7 is `BitVec.toInt`, `zext_N` is `BitVec.setWidth`, `quot` of R8 is
`Int.tdiv`. -/

namespace Sys2Proof

/-- The 4-bit operation select `OP` (`OP_WIDTH`, R6). -/
abbrev OpCode := BitVec 4

/-- The 16-bit two's-complement host operand (`OPERAND_WIDTH`, R6). -/
abbrev Operand := BitVec 16

/-- The 20-bit host request word `REQ` (R56). -/
abbrev Req := BitVec 20

/-- An 8-bit wire command code or configuration payload (`CMD_WIDTH`, `CFG_PAYLOAD_WIDTH`, R6). -/
abbrev Command := BitVec 8

/-- A 9-bit raw value or frame (`DATA_WIDTH`, R6). -/
abbrev Raw := BitVec 9

/-- The 16-bit result register (`RESULT_WIDTH`, R6). -/
abbrev Result := BitVec 16

/-- The 2-bit write-config status code (R32). -/
abbrev StatusCode := BitVec 2

/-- The index of a frame bit, 0 to 8 (R27, R70). -/
abbrev BitIndex := Fin 9

end Sys2Proof
end

