-- ==== Sys2Proof/Syntax.lean ====
section
/-! DEFINITION. The eleven host operations (30_encoding.md R57), one constructor per row of the opcode table. -/

namespace Sys2Proof

/-- A host operation with the 16 operand bits `REQ[19:4]` of its request. The eight operations that ignore the
operand (R59) keep the bits too, because ACCEPT latches them (40_primitives.md R71; log 11). -/
inductive Instr where
  | readTemp (ignored : Operand)
  | writeTh (operand : Operand)
  | writeTl (operand : Operand)
  | readTh (ignored : Operand)
  | readTl (ignored : Operand)
  | readCounter (ignored : Operand)
  | readSlope (ignored : Operand)
  | startConvert (ignored : Operand)
  | stopConvert (ignored : Operand)
  | writeConfig (operand : Operand)
  | readConfig (ignored : Operand)
deriving DecidableEq, Repr

end Sys2Proof
end

