-- ==== Sys2Proof/Decode.lean ====
section
/-! DEFINITION. The request decoder, total on every 20-bit word (30_encoding.md R69), and the encoder (R56, R57). -/

namespace Sys2Proof

/-- Why a request word spells no operation. -/
inductive DecodeError where
  /-- `REQ[3:0]` is one of 0xB to 0xF (30_encoding.md R58). -/
  | reservedOp (op : OpCode)
deriving DecidableEq, Repr

/-- `REQ[3:0]` (R56). -/
def reqOp (w : Req) : OpCode := w.extractLsb' 0 4

/-- `REQ[19:4]` (R56). -/
def reqOperand (w : Req) : Operand := w.extractLsb' 4 16

/-- The request word `{OPERAND, OP}` (R56, R67). -/
def reqWord (operand : Operand) (op : OpCode) : Req := operand ++ op

/-- The operation an `OP` code selects (R57), or the reserved outcome (R58). -/
def decodeFields (op : OpCode) (operand : Operand) : Except DecodeError Instr :=
  match op.toNat with
  | 0x0 => .ok (.readTemp operand)
  | 0x1 => .ok (.writeTh operand)
  | 0x2 => .ok (.writeTl operand)
  | 0x3 => .ok (.readTh operand)
  | 0x4 => .ok (.readTl operand)
  | 0x5 => .ok (.readCounter operand)
  | 0x6 => .ok (.readSlope operand)
  | 0x7 => .ok (.startConvert operand)
  | 0x8 => .ok (.stopConvert operand)
  | 0x9 => .ok (.writeConfig operand)
  | 0xA => .ok (.readConfig operand)
  | _ => .error (.reservedOp op)

/-- What a request word spells, by `REQ[3:0]` alone (R69). -/
def decodeWord (w : Req) : Except DecodeError Instr :=
  decodeFields (reqOp w) (reqOperand w)

/-- The `OP` code of an operation (R57). -/
def Instr.opcode : Instr → OpCode
  | .readTemp _ => 0x0#4
  | .writeTh _ => 0x1#4
  | .writeTl _ => 0x2#4
  | .readTh _ => 0x3#4
  | .readTl _ => 0x4#4
  | .readCounter _ => 0x5#4
  | .readSlope _ => 0x6#4
  | .startConvert _ => 0x7#4
  | .stopConvert _ => 0x8#4
  | .writeConfig _ => 0x9#4
  | .readConfig _ => 0xA#4

/-- The operand bits of an operation's request. -/
def Instr.operand : Instr → Operand
  | .readTemp x => x
  | .writeTh x => x
  | .writeTl x => x
  | .readTh x => x
  | .readTl x => x
  | .readCounter x => x
  | .readSlope x => x
  | .startConvert x => x
  | .stopConvert x => x
  | .writeConfig x => x
  | .readConfig x => x

/-- The request word of an operation (R56). -/
def encode (i : Instr) : Req := reqWord i.operand i.opcode

/-- The request word in the low 20 bits of the first `nbits` bits of `w`: the request has 20 bits and no more
(R56; log 15). -/
def reqOfBits (nbits w : Nat) : Req := BitVec.ofNat 20 (w % 2 ^ nbits)

/-- What the decoder reads from a row's word, whose bits are numbered as the table numbers them (`REQ[0]` is bit 0). -/
def decodeTableWord (nbits w : Nat) : Option Instr :=
  match decodeWord (reqOfBits nbits w) with
  | .ok i => some i
  | .error _ => none

end Sys2Proof
end

