-- ==== Sys2Proof/Config.lean ====
section
/-! DEFINITION. What one engine's construction fixes (the line binding and the parameters of 00_scope.md R6),
and the one free value of the model: the level the responder presents at a sample. -/

namespace Sys2Proof

/-- A logic level on a line (00_scope.md R9). -/
inductive Level where
  | low
  | high
deriving DecidableEq, Repr, Inhabited

/-- The line binding and the implementation parameters, fixed for the engine's life (00_scope.md R6,
10_state.md R20, 30_encoding.md R60). No step writes any of it. `T_EVENT_MIN` is "not modelled" (R6). -/
structure Config where
  /-- `DQ_ID`, the platform channel of the DATA line (R20). -/
  dqId : Nat
  /-- `CLK_ID`, the platform channel of the CLOCK line (R20). -/
  clkId : Nat
  /-- `RST_ID`, the platform channel of the RESET line (R20). -/
  rstId : Nat
  cmdReadTemp : Command
  cmdWriteTh : Command
  cmdWriteTl : Command
  cmdReadTh : Command
  cmdReadTl : Command
  cmdReadCounter : Command
  cmdReadSlope : Command
  cmdStartConvert : Command
  cmdStopConvert : Command
  cmdWriteConfig : Command
  cmdReadConfig : Command
  /-- `WRITE_SETTLE_MS` (R6, D8). -/
  writeSettleMs : Nat
deriving DecidableEq, Repr

/-- The defaults of 30_encoding.md R60 and of R6. DESIGN CHOICE (log 2): the three channel identifiers, which the
spec makes arguments of construction. -/
def Config.default : Config where
  dqId := 0
  clkId := 1
  rstId := 2
  cmdReadTemp := 0xAA#8
  cmdWriteTh := 0x01#8
  cmdWriteTl := 0x02#8
  cmdReadTh := 0xA1#8
  cmdReadTl := 0xA2#8
  cmdReadCounter := 0xA0#8
  cmdReadSlope := 0xA9#8
  cmdStartConvert := 0xEE#8
  cmdStopConvert := 0x22#8
  cmdWriteConfig := 0x0C#8
  cmdReadConfig := 0xAC#8
  writeSettleMs := 10

/-- The level the responder presents at the engine's n-th sample, where the environment has not fixed it: a free
draw (D22, 60_exceptions.md R112). Nothing is known of it. -/
opaque Config.freeSample : Nat → Level

end Sys2Proof
end

