-- ==== Sys2Proof/WellFormed.lean ====
section
/-! DEFINITION. Well-formedness: of a line binding (10_state.md R20), of an instruction (30_encoding.md R59) and of
an assembler instruction (30_encoding.md R67). -/

namespace Sys2Proof

/-- The three channel identifiers are pairwise distinct (10_state.md R20, 70_reset_and_hazards.md R125). -/
def Config.wellFormed (c : Config) : Bool :=
  c.dqId != c.clkId && c.dqId != c.rstId && c.clkId != c.rstId

/-- Every operation with every operand is well formed: "No OPERAND value is reserved" (30_encoding.md R59), and the
operand's 16 bits are its type. -/
def Instr.wellFormed : Instr → Bool
  | .readTemp _ => true
  | .writeTh _ => true
  | .writeTl _ => true
  | .readTh _ => true
  | .readTl _ => true
  | .readCounter _ => true
  | .readSlope _ => true
  | .startConvert _ => true
  | .stopConvert _ => true
  | .writeConfig _ => true
  | .readConfig _ => true

/-- The instruction is one that an assembler line spells: a mnemonic with no operand encodes OPERAND = 0
(30_encoding.md R67). -/
def Instr.assemblerForm : Instr → Bool
  | .readTemp x => x == 0
  | .writeTh _ => true
  | .writeTl _ => true
  | .readTh x => x == 0
  | .readTl x => x == 0
  | .readCounter x => x == 0
  | .readSlope x => x == 0
  | .startConvert x => x == 0
  | .stopConvert x => x == 0
  | .writeConfig _ => true
  | .readConfig x => x == 0

end Sys2Proof
end

