-- ==== Sys2Proof/Machine/State.lean ====
section
/-! DEFINITION. The engine's state: R19's table (10_state.md) whole, the parameters fixed at construction, and the
model's own fields (the observation of 00_scope.md R10 and the data of the host and the responder). -/

namespace Sys2Proof.Machine

/-- The three lines (00_scope.md R1). -/
inductive Line where
  | dq
  | clk
  | rst
deriving DecidableEq, Repr

/-- The direction of a line (10_state.md R22). -/
inductive Direction where
  | output
  | input
deriving DecidableEq, Repr

/-- A line-level register: the level last driven, or UNKNOWN before any drive (10_state.md R21; log 10). -/
inductive LineLevel where
  | unknown
  | driven (level : Level)
deriving DecidableEq, Repr

/-- The session status (10_state.md R23). -/
inductive Session where
  | closed
  | opened
deriving DecidableEq, Repr

/-- A line event, the unit of the engine's observation (00_scope.md R10). -/
inductive Event where
  /-- `Dir(L, d)`: set-direction. -/
  | dir (line : Line) (direction : Direction)
  /-- `Drive(L, lvl)`: write-level. -/
  | drive (line : Line) (level : Level)
  /-- `Sample(DQ) = b`: read-level. -/
  | sample (bit : Bool)
  /-- `Wait(ms)`: sleep. -/
  | wait (ms : Nat)
deriving DecidableEq, Repr

/-- The completion record of one request: what the host-visible registers hold as its `POST` or its fault left them
(00_scope.md R10, 70_reset_and_hazards.md R140). -/
structure Completion where
  result : Result
  status : StatusCode
  done : Bool
  fault : Bool
deriving DecidableEq, Repr

/-- The state of the engine. Every register of 10_state.md R19 has one field. -/
structure State where
  /-- The line binding (R20) and the parameters of 00_scope.md R6; no step writes it. -/
  cfg : Config
  /-- `RST_L` (R21). -/
  rstL : LineLevel
  /-- `CLK_L` (R21). -/
  clkL : LineLevel
  /-- `DQ_L` (R21). -/
  dqL : LineLevel
  /-- `DQ_DIR` (R22). -/
  dqDir : Direction
  /-- `SESSION` (R23). -/
  session : Session
  /-- `OP` (R24). -/
  op : OpCode
  /-- `OPERAND` (R25). -/
  operand : Operand
  /-- `SR` (R26). -/
  sr : Raw
  /-- `BITIDX` (R27). -/
  bitIdx : BitIndex
  /-- `UPC` (R28). -/
  upc : Nat
  /-- `BUSY` (R29). -/
  busy : Bool
  /-- `DONE` (R30). -/
  done : Bool
  /-- `RESULT` (R31). -/
  result : Result
  /-- `STATUS` (R32). -/
  status : StatusCode
  /-- `FAULT`, sticky (R33). -/
  fault : Bool
  /-- The model's own: the line-event trace, oldest first (00_scope.md R10; log 6). -/
  trace : List Event
  /-- The model's own: the completion records, oldest first (00_scope.md R10; log 6). -/
  completions : List Completion
  /-- The model's own: the host's operations not yet accepted, in order. The head is the one request the host presents
  to an idle engine; the others follow one at a time (00_scope.md R2; log 5). -/
  requests : List Req
  /-- The model's own: the levels the environment has fixed for the coming samples (log 4). -/
  responder : List Level
  /-- The model's own: the number of samples taken, which the free value is applied to (log 4). -/
  draws : Nat
  /-- The model's own, of the platform: the wait, in milliseconds, that the engine has issued and the platform has not
  ended yet (00_scope.md R2, R9; log 12). -/
  waiting : Option Nat
deriving DecidableEq, Repr

/-- Why the machine stops with a fault. Both are raised by `step` alone, in states that no run reaches
("the `else` branch never indexes past the end of `prog`", 40_primitives.md R71); both are safe: the model stops
where the spec gives no step (log 8). `FAULT_ILLEGAL_OP` is no such stop: it sets `State.fault` (log 7). -/
inductive Fault where
  /-- Raised by `carryOut`: BUSY = 1 and UPC is past the end of the micro-program. Safe. -/
  | noMicroOperation
  /-- Raised by `rejectRequest`: BUSY = 1 and the latched OP is reserved, so there is no micro-program. Safe. -/
  | noProgram
deriving DecidableEq, Repr

/-- Why the model gives an input no meaning (00_scope.md R11 (c)). All are safe: the model stops. -/
inductive Refusal where
  /-- Raised by `exec` for an instruction without a meaning: none is left. Safe. -/
  | notModelled (mnemonic : String)
  /-- Raised by `exec` and `submit`: a host request while the engine is busy with another one
  (R11 (c), 70_reset_and_hazards.md R137; log 9). Safe. -/
  | requestWhileBusy
  /-- Raised by `submit`: a second request before the first is accepted; the host submits one operation at a time
  (00_scope.md R2; log 5). Safe. -/
  | requestPending
  /-- Raised by the stand-alone primitives: called while an operation is carried out (log 14). Safe. -/
  | primitiveWhileBusy
  /-- Raised by `construct`: two equal channel identifiers (70_reset_and_hazards.md R125). Safe. -/
  | channelsNotDistinct
  /-- Raised by `reconstruct`: a construction while BUSY = 1 (70_reset_and_hazards.md R128). Safe. -/
  | constructWhileBusy
  /-- Raised by `endSession`: a stand-alone END with no session open (70_reset_and_hazards.md R133). Safe. -/
  | endWithoutSession
deriving DecidableEq, Repr

/-- The three direction events of construction, in the order of 70_reset_and_hazards.md R125. -/
def constructionEvents : List Event :=
  [.dir .clk .output, .dir .rst .output, .dir .dq .output]

/-- The state construction leaves (10_state.md R38, 70_reset_and_hazards.md R125). DESIGN CHOICE (log 1): `OP`,
`OPERAND`, `SR` and `BITIDX`, which R38 leaves unspecified, are zero. DESIGN CHOICE (logs 4, 5): the host has
presented nothing and every coming sample is free. -/
def State.constructed (cfg : Config) : State where
  cfg := cfg
  rstL := .unknown
  clkL := .unknown
  dqL := .unknown
  dqDir := .output
  session := .closed
  op := 0
  operand := 0
  sr := 0
  bitIdx := 0
  upc := 0
  busy := false
  done := false
  result := 0
  status := 0
  fault := false
  trace := constructionEvents
  completions := []
  requests := []
  responder := []
  draws := 0
  waiting := none

/-- The machine right after reset: the engine constructed with the default parameters (logs 2, 3). -/
def State.reset : State := State.constructed Config.default

end Sys2Proof.Machine
end

