-- ==== Sys2Proof/Machine/MicroOp.lean ====
section
/-! DEFINITION. The micro-operation alphabet (40_primitives.md R70) and the names of the post-processings (R72). -/

namespace Sys2Proof.Machine

/-- The post-processing a `POST` applies (R72). -/
inductive Post where
  /-- `P_TEMP` (42_read_ops.md R95). -/
  | temp
  /-- `P_THRESH` (R96). -/
  | thresh
  /-- `P_RAW9` (R98). -/
  | raw9
  /-- `P_CFG` (R100). -/
  | cfg
  /-- `P_NONE` (43_write_ops.md R102). -/
  | nothing
  /-- `P_REJECT` (R104). -/
  | reject
  /-- `P_VERIFY` (R104). -/
  | verify
deriving DecidableEq, Repr

/-- A micro-operation (R70). The frame of a `TXBIT` stands zero-extended to 9 bits, the form in which R70 loads it. -/
inductive MicroOp where
  | drv (line : Line) (level : Level)
  | txBit (frame : Raw) (i : BitIndex)
  | rxBegin
  | rxBit (i : BitIndex)
  | rxEnd
  | wait
  | post (p : Post)
deriving DecidableEq, Repr

end Sys2Proof.Machine
end

