-- ==== Sys2Proof/Machine/Operands.lean ====
section
/-! DEFINITION. The level and bit conversions (00_scope.md R9), the operand forms (30_encoding.md R66) and the codec
(41_codec.md). All arithmetic is on mathematical integers (00_scope.md R8). -/

namespace Sys2Proof.Machine

/-- The level a bit is driven as: 1 is HIGH, 0 is LOW (D11). -/
def levelOf (bit : Bool) : Level := if bit then .high else .low

/-- The bit a sampled level gives: HIGH is 1, LOW is 0 (00_scope.md R9, D11). -/
def bitOf (level : Level) : Bool :=
  match level with
  | .low => false
  | .high => true

/-- `zext_9` of an 8-bit frame (40_primitives.md R70, R76). -/
def frame8 (c : Command) : Raw := c.setWidth 9

/-- `SR[i] <- SR[i] OR b` (40_primitives.md R70). -/
def orBit (r : Raw) (i : BitIndex) (bit : Bool) : Raw :=
  r ||| ((BitVec.ofBool bit).setWidth 9 <<< i.val)

/-- `decode_temp` by the steps of 41_codec.md R85. -/
def decodeTemp (v : Raw) : Int :=
  let sign := v.getLsbD 8
  let mag : Int := ((v.extractLsb' 0 8).toNat : Int)
  let t : Int := if sign then -(0x100 - mag) else mag
  t.tdiv 2

/-- `decode_th`: the raw value halved, with no sign handling (41_codec.md R89). -/
def decodeTh (v : Raw) : Nat := v.toNat / 2

/-- `encode_th`: the operand doubled, reduced mod 2^9 (41_codec.md R90). -/
def encodeTh (x : Operand) : Raw := BitVec.ofInt 9 (2 * x.toInt)

/-- `cfg_payload` (41_codec.md R92). -/
def cfgPayload (x : Operand) : Command := x.extractLsb' 0 8

/-- `cfg_read` (41_codec.md R92). -/
def cfgRead (v : Raw) : Command := v.extractLsb' 0 8

/-- `raw9` (41_codec.md R93). -/
def raw9 (v : Raw) : Raw := v

/-- `RESULT` of P_TEMP: `decode_temp(SR) mod 2^16` (42_read_ops.md R95). -/
def resultTemp (sr : Raw) : Result := BitVec.ofInt 16 (decodeTemp sr)

/-- `RESULT` of P_THRESH: `zext_16(decode_th(SR))` (42_read_ops.md R96). -/
def resultThresh (sr : Raw) : Result := BitVec.ofNat 16 (decodeTh sr)

/-- `RESULT` of P_RAW9: `zext_16(SR)` (42_read_ops.md R98). -/
def resultRaw9 (sr : Raw) : Result := (raw9 sr).setWidth 16

/-- `RESULT` of P_CFG: `zext_16(cfg_read(SR))` (42_read_ops.md R100). -/
def resultCfg (sr : Raw) : Result := (cfgRead sr).setWidth 16

end Sys2Proof.Machine
end

