-- ==== Sys2Proof/Machine/Flags.lean ====
section
/-! DEFINITION. The status register and the one-bit flags BUSY, DONE and FAULT: who writes them and when
(10_state.md R29, R30, R32, R33, 60_exceptions.md R110, R111). The engine has no arithmetic flags (R35). -/

namespace Sys2Proof.Machine

/-- `STATUS` of a rejected WRITE_CONFIG (43_write_ops.md R104). -/
def statusRejected : StatusCode := 2#2

/-- WRITE_CONFIG rejects its operand: `sint_16(OPERAND) <= 0` (43_write_ops.md R104). -/
def configRejected (x : Operand) : Bool := decide (x.toInt ≤ 0)

/-- `STATUS` of P_VERIFY: 0 where the read-back equals the whole signed operand, else 1 (43_write_ops.md R104, D10). -/
def statusVerify (sr : Raw) (x : Operand) : StatusCode :=
  if ((cfgRead sr).toNat : Int) = x.toInt then 0#2 else 1#2

/-- The end of a request: `BUSY <- 0`, `DONE <- 1` (40_primitives.md R70, POST). -/
def complete (s : State) : State :=
  { s with
    busy := false
    done := true
    completions := s.completions ++ [{ result := s.result, status := s.status, done := true, fault := s.fault }] }

/-- The register a `POST(p)` writes before it completes the request (42_read_ops.md, 43_write_ops.md,
44_conversion_ops.md). -/
def applyPost (p : Post) (s : State) : State :=
  match p with
  | .temp => { s with result := resultTemp s.sr }
  | .thresh => { s with result := resultThresh s.sr }
  | .raw9 => { s with result := resultRaw9 s.sr }
  | .cfg => { s with result := resultCfg s.sr }
  | .nothing => s
  | .reject => { s with status := statusRejected }
  | .verify => { s with status := statusVerify s.sr s.operand }

/-- `POST(p)` (40_primitives.md R70). -/
def post (p : Post) (s : State) : State := complete (applyPost p s)

end Sys2Proof.Machine
end

