-- ==== Sys2Proof/Machine/Ops.lean ====
section
/-! DEFINITION. The shared operations: the effect of each micro-operation (40_primitives.md R70), the blocks the
micro-programs are made of (R72), the parts of the engine's step (R71) and FAULT_ILLEGAL_OP (60_exceptions.md R111).
The engine has no trap entry and no return from one (60_exceptions.md R114, R116). -/

namespace Sys2Proof.Machine

/-! ### The platform's and the responder's steps (00_scope.md R2) -/

/-- The platform's step for set-direction, write-level, read-level and the start of a sleep: it carries out the line
event the engine has issued (60_exceptions.md R119), before the engine issues the next (20_memory.md R51). -/
def platformCarriesOut (e : Event) (s : State) : State :=
  { s with trace := s.trace ++ [e] }

/-- The platform's step that ends the wait (00_scope.md R2, D24; log 12). -/
def platformEndsWait (s : State) : State :=
  { s with waiting := none }

/-- The level the responder presents at the k-th coming sample: the one the environment has fixed, else a free draw
(D22; log 4). -/
def State.sampleLevel (s : State) (k : Nat) : Level :=
  match s.responder[k]? with
  | some v => v
  | none => Config.freeSample (s.draws + k)

/-- The responder's step at a sample: it has presented this sample's level and goes on to the next (R2, D22). -/
def responderStep (s : State) : State :=
  { s with
    responder := s.responder.tail
    draws := s.draws + 1 }

/-! ### Micro-operations (R70) -/

/-- `DRV(L, lvl)`: one `Drive` event, the line's level register, and on RST the session status. -/
def drv (l : Line) (v : Level) (s : State) : State :=
  platformCarriesOut (.drive l v) { s with
    rstL := if l = .rst then .driven v else s.rstL
    clkL := if l = .clk then .driven v else s.clkL
    dqL := if l = .dq then .driven v else s.dqL
    session := if l = .rst then (if v = .high then .opened else .closed) else s.session }

/-- The shift register as `TXBIT(f, i)` leaves it: loaded at the frame's first bit. -/
def txLoad (frame : Raw) (i : BitIndex) (sr : Raw) : Raw :=
  if i.val = 0 then frame else sr

/-- `TXBIT(f, i)`: bit i of `SR` is driven on DQ. -/
def txBit (frame : Raw) (i : BitIndex) (s : State) : State :=
  platformCarriesOut (.drive .dq (levelOf ((txLoad frame i s.sr).getLsbD i.val))) { s with
    sr := txLoad frame i s.sr
    dqL := .driven (levelOf ((txLoad frame i s.sr).getLsbD i.val))
    bitIdx := i }

/-- `RXBEGIN`: DQ becomes an input and the accumulator is cleared. -/
def rxBegin (s : State) : State :=
  platformCarriesOut (.dir .dq .input) { s with
    dqDir := .input
    sr := 0 }

/-- `RXBIT(i)`: one sample of DQ, ORed into bit i of the accumulator. -/
def rxBit (i : BitIndex) (s : State) : State :=
  platformCarriesOut (.sample (bitOf (s.sampleLevel 0))) { responderStep s with
    sr := orBit s.sr i (bitOf (s.sampleLevel 0))
    bitIdx := i }

/-- `RXEND`: DQ becomes an output again; `DQ_L` is unchanged (D13). -/
def rxEnd (s : State) : State :=
  platformCarriesOut (.dir .dq .output) { s with dqDir := .output }

/-- `WAIT` as the engine issues it (40_primitives.md R83): the wait is outstanding until the platform ends it. -/
def issueWait (s : State) : State :=
  platformCarriesOut (.wait s.cfg.writeSettleMs) { s with waiting := some s.cfg.writeSettleMs }

/-- `WAIT`, whole: "step ends when the platform ends the wait" (R70). -/
def settleWait (s : State) : State := platformEndsWait (issueWait s)

/-- The effect of a micro-operation (R70). -/
def microStep (m : MicroOp) (s : State) : State :=
  match m with
  | .drv l v => drv l v s
  | .txBit frame i => txBit frame i s
  | .rxBegin => rxBegin s
  | .rxBit i => rxBit i s
  | .rxEnd => rxEnd s
  | .wait => settleWait s
  | .post p => post p s

/-- The micro-operations of a block, one after another. -/
def runBlock (ms : List MicroOp) (s : State) : State :=
  ms.foldl (fun t m => microStep m t) s

/-! ### The blocks of the micro-programs (R72) -/

/-- BEGIN (R73). -/
def beginBlock : List MicroOp := [.drv .rst .low, .drv .clk .high, .drv .rst .high]

/-- END (R74). -/
def endBlock : List MicroOp := [.drv .rst .low]

/-- The nine bit indexes, least significant first (20_memory.md R44). -/
def bitIndexes : List BitIndex := [0, 1, 2, 3, 4, 5, 6, 7, 8]

/-- `TX(n, f)` (R72). -/
def tx (n : Nat) (frame : Raw) : List MicroOp :=
  (bitIndexes.take n).flatMap fun i => [.txBit frame i, .drv .clk .low, .drv .clk .high]

/-- `TX8(c)` (R76). -/
def tx8 (c : Command) : List MicroOp := tx 8 (frame8 c)

/-- `TX9(v)` (R78). -/
def tx9 (v : Raw) : List MicroOp := tx 9 v

/-- `RX9` (R80). -/
def rx9 : List MicroOp :=
  [.rxBegin] ++ (bitIndexes.flatMap fun i => [.drv .clk .low, .rxBit i, .drv .clk .high]) ++ [.rxEnd]

/-- SETTLE (R83). -/
def settleBlock : List MicroOp := [.wait]

/-- `READ(c, p)` (R72). -/
def readProgram (c : Command) (p : Post) : List MicroOp :=
  beginBlock ++ tx8 c ++ rx9 ++ endBlock ++ [.post p]

/-- The micro-program of a threshold write (43_write_ops.md R102, R103). -/
def writeThresholdProgram (c : Command) (x : Operand) : List MicroOp :=
  beginBlock ++ tx8 c ++ tx9 (encodeTh x) ++ settleBlock ++ endBlock ++ [.post .nothing]

/-- The micro-program of a conversion-control operation (44_conversion_ops.md R106). -/
def commandProgram (c : Command) : List MicroOp :=
  beginBlock ++ tx8 c ++ endBlock ++ [.post .nothing]

/-- The micro-program of WRITE_CONFIG (43_write_ops.md R104). -/
def writeConfigProgram (cWrite cRead : Command) (x : Operand) : List MicroOp :=
  if configRejected x then [.post .reject]
  else
    beginBlock ++ tx8 cWrite ++ tx8 (cfgPayload x) ++ settleBlock ++ endBlock ++
      beginBlock ++ tx8 cRead ++ rx9 ++ endBlock ++ [.post .verify]

/-! ### The engine's step (R71) -/

/-- ACCEPT of a non-reserved request: `DONE <- 0`, `OP` and `OPERAND` are latched, `UPC <- 0`, `BUSY <- 1`, and the
request is consumed. -/
def accept (op : OpCode) (operand : Operand) (s : State) : State :=
  { s with
    done := false
    op := op
    operand := operand
    upc := 0
    busy := true
    requests := s.requests.tail }

/-- `UPC <- UPC + 1`. -/
def advance (s : State) : State := { s with upc := s.upc + 1 }

/-- The move that is next at a micro-operation. At `WAIT` there are two: the engine issues the wait, which blocks it
(00_scope.md R9); then the platform ends it, and with that the micro-operation (R70, D24; log 12). Every other
micro-operation is carried out whole. -/
def microMove (m : MicroOp) (s : State) : State :=
  match m with
  | .wait => if s.waiting.isSome then advance (platformEndsWait s) else issueWait s
  | .drv l v => advance (microStep (.drv l v) s)
  | .txBit frame i => advance (microStep (.txBit frame i) s)
  | .rxBegin => advance (microStep .rxBegin s)
  | .rxBit i => advance (microStep (.rxBit i) s)
  | .rxEnd => advance (microStep .rxEnd s)
  | .post p => advance (microStep (.post p) s)

/-- The `BUSY = 1` branch: the micro-operation at `UPC`. Past the program's end, which no run reaches, the spec has no
step (log 8). -/
def carryOut (prog : List MicroOp) (s : State) : Host.Outcome State Fault Refusal :=
  match prog[s.upc]? with
  | some m => .next (microMove m s)
  | none => .fault .noMicroOperation

/-- The one step on behalf of the operation with this `OP` code, operand and micro-program: ACCEPT where the
engine is idle; the next move of its micro-program where it is carrying out this operation; where it is busy with
another one, the input is a host request while busy, which has no meaning (00_scope.md R11 (c); log 9). -/
def engineStep (op : OpCode) (operand : Operand) (prog : List MicroOp) (s : State) :
    Host.Outcome State Fault Refusal :=
  if s.busy then
    if s.op = op ∧ s.operand = operand then carryOut prog s else .refused .requestWhileBusy
  else .next (accept op operand s)

/-- The request word the engine works on: the latched one where it is busy, else the one the host presents. -/
def currentWord (s : State) : Option Req :=
  if s.busy then some (reqWord s.operand s.op) else s.requests.head?

/-- No request is presented: the engine is idle (R71). The step is a stutter (log 5). -/
def idleStep (s : State) : Host.Outcome State Fault Refusal := .next s

/-! ### FAULT_ILLEGAL_OP (60_exceptions.md R111) -/

/-- `raise FAULT_ILLEGAL_OP(op)`: the request is consumed, `FAULT <- 1`, `DONE <- 1`, and nothing else. The reserved
code is not kept. -/
def raiseIllegalOp (_op : OpCode) (s : State) : State :=
  { s with
    fault := true
    done := true
    requests := s.requests.tail
    completions := s.completions ++ [{ result := s.result, status := s.status, done := true, fault := true }] }

/-- The step on a word that spells no operation: FAULT_ILLEGAL_OP at ACCEPT. Such a word is never latched, so in the
`BUSY = 1` case, which no run reaches, the spec has no step (log 8). -/
def rejectRequest (e : DecodeError) (s : State) : Host.Outcome State Fault Refusal :=
  match e with
  | .reservedOp op => if s.busy then .fault .noProgram else .next (raiseIllegalOp op s)

end Sys2Proof.Machine
end

