-- ==== Sys2Proof/Machine/ConversionOps.lean ====
section
/-! DEFINITION. The two conversion-control operations (44_conversion_ops.md): the micro-program and the meaning of
each. -/

namespace Sys2Proof.Machine

/-- `prog(0x7, x)` (40_primitives.md R72). -/
def progStartConvert (c : Config) : List MicroOp := commandProgram c.cmdStartConvert

/-- START_CONVERT (44_conversion_ops.md R107). -/
def execStartConvert (x : Operand) (s : State) : Host.Outcome State Fault Refusal :=
  engineStep 0x7#4 x (progStartConvert s.cfg) s

/-- `prog(0x8, x)` (40_primitives.md R72). -/
def progStopConvert (c : Config) : List MicroOp := commandProgram c.cmdStopConvert

/-- STOP_CONVERT (44_conversion_ops.md R108). -/
def execStopConvert (x : Operand) (s : State) : Host.Outcome State Fault Refusal :=
  engineStep 0x8#4 x (progStopConvert s.cfg) s

end Sys2Proof.Machine
end

