-- ==== Sys2Proof/Machine/ReadOps.lean ====
section
/-! DEFINITION. The six read operations (42_read_ops.md): the micro-program and the meaning of each. -/

namespace Sys2Proof.Machine

/-- `prog(0x0, x)` (40_primitives.md R72). -/
def progReadTemp (c : Config) : List MicroOp := readProgram c.cmdReadTemp .temp

/-- READ_TEMP (42_read_ops.md R95). -/
def execReadTemp (x : Operand) (s : State) : Host.Outcome State Fault Refusal :=
  engineStep 0x0#4 x (progReadTemp s.cfg) s

/-- `prog(0x3, x)` (40_primitives.md R72). -/
def progReadTh (c : Config) : List MicroOp := readProgram c.cmdReadTh .thresh

/-- READ_TH (42_read_ops.md R96). -/
def execReadTh (x : Operand) (s : State) : Host.Outcome State Fault Refusal :=
  engineStep 0x3#4 x (progReadTh s.cfg) s

/-- `prog(0x4, x)` (40_primitives.md R72). -/
def progReadTl (c : Config) : List MicroOp := readProgram c.cmdReadTl .thresh

/-- READ_TL (42_read_ops.md R97). -/
def execReadTl (x : Operand) (s : State) : Host.Outcome State Fault Refusal :=
  engineStep 0x4#4 x (progReadTl s.cfg) s

/-- `prog(0x5, x)` (40_primitives.md R72). -/
def progReadCounter (c : Config) : List MicroOp := readProgram c.cmdReadCounter .raw9

/-- READ_COUNTER (42_read_ops.md R98). -/
def execReadCounter (x : Operand) (s : State) : Host.Outcome State Fault Refusal :=
  engineStep 0x5#4 x (progReadCounter s.cfg) s

/-- `prog(0x6, x)` (40_primitives.md R72). -/
def progReadSlope (c : Config) : List MicroOp := readProgram c.cmdReadSlope .raw9

/-- READ_SLOPE (42_read_ops.md R99). -/
def execReadSlope (x : Operand) (s : State) : Host.Outcome State Fault Refusal :=
  engineStep 0x6#4 x (progReadSlope s.cfg) s

/-- `prog(0xA, x)` (40_primitives.md R72). -/
def progReadConfig (c : Config) : List MicroOp := readProgram c.cmdReadConfig .cfg

/-- READ_CONFIG (42_read_ops.md R100). -/
def execReadConfig (x : Operand) (s : State) : Host.Outcome State Fault Refusal :=
  engineStep 0xA#4 x (progReadConfig s.cfg) s

end Sys2Proof.Machine
end

