-- ==== Sys2Proof/Machine/WriteOps.lean ====
section
/-! DEFINITION. The three write operations (43_write_ops.md): the micro-program and the meaning of each. -/

namespace Sys2Proof.Machine

/-- `prog(0x1, x)` (40_primitives.md R72). -/
def progWriteTh (c : Config) (x : Operand) : List MicroOp := writeThresholdProgram c.cmdWriteTh x

/-- WRITE_TH (43_write_ops.md R102). -/
def execWriteTh (x : Operand) (s : State) : Host.Outcome State Fault Refusal :=
  engineStep 0x1#4 x (progWriteTh s.cfg x) s

/-- `prog(0x2, x)` (40_primitives.md R72). -/
def progWriteTl (c : Config) (x : Operand) : List MicroOp := writeThresholdProgram c.cmdWriteTl x

/-- WRITE_TL (43_write_ops.md R103). -/
def execWriteTl (x : Operand) (s : State) : Host.Outcome State Fault Refusal :=
  engineStep 0x2#4 x (progWriteTl s.cfg x) s

/-- `prog(0x9, x)` (40_primitives.md R72). -/
def progWriteConfig (c : Config) (x : Operand) : List MicroOp :=
  writeConfigProgram c.cmdWriteConfig c.cmdReadConfig x

/-- WRITE_CONFIG (43_write_ops.md R104). -/
def execWriteConfig (x : Operand) (s : State) : Host.Outcome State Fault Refusal :=
  engineStep 0x9#4 x (progWriteConfig s.cfg x) s

end Sys2Proof.Machine
end

