-- ==== Sys2Proof/Machine/Dispatch.lean ====
section
/-! DEFINITION. The dispatch: the engine's one step on behalf of an operation. -/

namespace Sys2Proof.Machine

def exec (i : Instr) (s : State) : Host.Outcome State Fault Refusal :=
  match i with
  | .readTemp x => Sys2Proof.Machine.execReadTemp x s
  | .writeTh x => Sys2Proof.Machine.execWriteTh x s
  | .writeTl x => Sys2Proof.Machine.execWriteTl x s
  | .readTh x => Sys2Proof.Machine.execReadTh x s
  | .readTl x => Sys2Proof.Machine.execReadTl x s
  | .readCounter x => Sys2Proof.Machine.execReadCounter x s
  | .readSlope x => Sys2Proof.Machine.execReadSlope x s
  | .startConvert x => Sys2Proof.Machine.execStartConvert x s
  | .stopConvert x => Sys2Proof.Machine.execStopConvert x s
  | .writeConfig x => Sys2Proof.Machine.execWriteConfig x s
  | .readConfig x => Sys2Proof.Machine.execReadConfig x s

end Sys2Proof.Machine
end

