-- ==== Sys2Proof/Machine/Step.lean ====
section
/-! DEFINITION. The engine's step (40_primitives.md R71) and the placing of a request for it. -/

namespace Sys2Proof.Machine

/-- One step of the machine: idle where there is no request; else one step on behalf of the operation the current word
spells (the platform's while the engine waits), or FAULT_ILLEGAL_OP where it spells none. -/
def step (s : State) : Host.Outcome State Fault Refusal :=
  match currentWord s with
  | none => idleStep s
  | some w =>
    match decodeWord w with
    | .ok i => exec i s
    | .error e => rejectRequest e s

/-- The state with this request word presented to an idle engine, so that the very next step accepts it: the word is
put before the host's others, and `BUSY` is 0 with no wait outstanding, which an ACCEPT needs (R71; logs 5, 15). -/
def State.withFetchWord (s : State) (nbits w : Nat) : State :=
  { s with
    busy := false
    waiting := none
    requests := reqOfBits nbits w :: s.requests }

end Sys2Proof.Machine
end

