-- ==== Sys2Proof/Machine/Assembler.lean ====
section
/-! DEFINITION. The assembler syntax of host operations (30_encoding.md R67; log 16). A line is a list of characters. -/

namespace Sys2Proof.Machine

/-- Why a line spells no operation. -/
inductive AsmError where
  | emptyLine
  | unknownMnemonic
  | operandMissing
  | operandNotAllowed
  | badOperand
  | tooManyWords
deriving DecidableEq, Repr

/-- The line without its comment: `;` begins one (R67). -/
def stripComment (line : List Char) : List Char := line.takeWhile fun c => c != ';'

/-- The words of a line, which blanks separate; `word` holds the current one, reversed. -/
def splitWords (word : List Char) (line : List Char) : List (List Char) :=
  match line with
  | [] => if word.isEmpty then [] else [word.reverse]
  | c :: rest =>
    if c == ' ' || c == '\t' then
      if word.isEmpty then splitWords [] rest else word.reverse :: splitWords [] rest
    else splitWords (c :: word) rest

/-- The value of a decimal or hexadecimal digit. -/
def digitValue (c : Char) : Option Nat :=
  let n := c.toNat
  if 48 ≤ n ∧ n ≤ 57 then some (n - 48)
  else if 65 ≤ n ∧ n ≤ 70 then some (n - 55)
  else if 97 ≤ n ∧ n ≤ 102 then some (n - 87)
  else none

/-- The number a list of digits spells in a base, most significant first. -/
def digitsValue (base : Nat) (acc : Nat) (digits : List Char) : Option Nat :=
  match digits with
  | [] => some acc
  | c :: rest =>
    match digitValue c with
    | some d => if d < base then digitsValue base (acc * base + d) rest else none
    | none => none

/-- A signed value that 16 bits hold: [-32768, 32767] (R67). -/
def operandOfInt (x : Int) : Option Operand :=
  if -32768 ≤ x ∧ x ≤ 32767 then some (BitVec.ofInt 16 x) else none

/-- An operand: a signed decimal integer, or a 16-bit literal `0xHHHH` (R67). -/
def parseOperand (word : List Char) : Option Operand :=
  match word with
  | '0' :: 'x' :: digits =>
    if digits.length = 4 then (digitsValue 16 0 digits).map (BitVec.ofNat 16) else none
  | '-' :: digits =>
    if digits.isEmpty then none else (digitsValue 10 0 digits).bind fun n => operandOfInt (-(n : Int))
  | digits => if digits.isEmpty then none else (digitsValue 10 0 digits).bind fun n => operandOfInt (n : Int)

/-- A mnemonic that takes one operand. -/
def withOperand (mk : Operand → Instr) (args : List (List Char)) : Except AsmError Instr :=
  match args with
  | [] => .error .operandMissing
  | [a] =>
    match parseOperand a with
    | some x => .ok (mk x)
    | none => .error .badOperand
  | _ => .error .tooManyWords

/-- A mnemonic that takes none: OPERAND = 0 (R67). -/
def withoutOperand (mk : Operand → Instr) (args : List (List Char)) : Except AsmError Instr :=
  match args with
  | [] => .ok (mk 0)
  | _ => .error .operandNotAllowed

/-- The mnemonics of R57, each with how its operation is made from the rest of the line. -/
def mnemonicTable : List (List Char × (List (List Char) → Except AsmError Instr)) :=
  [("READ_TEMP".toList, withoutOperand .readTemp),
   ("WRITE_TH".toList, withOperand .writeTh),
   ("WRITE_TL".toList, withOperand .writeTl),
   ("READ_TH".toList, withoutOperand .readTh),
   ("READ_TL".toList, withoutOperand .readTl),
   ("READ_COUNTER".toList, withoutOperand .readCounter),
   ("READ_SLOPE".toList, withoutOperand .readSlope),
   ("START_CONVERT".toList, withoutOperand .startConvert),
   ("STOP_CONVERT".toList, withoutOperand .stopConvert),
   ("WRITE_CONFIG".toList, withOperand .writeConfig),
   ("READ_CONFIG".toList, withoutOperand .readConfig)]

/-- The operation a line spells (R67). -/
def assembleLine (line : List Char) : Except AsmError Instr :=
  match splitWords [] (stripComment line) with
  | [] => .error .emptyLine
  | word :: args =>
    match mnemonicTable.find? fun row => row.1 == word with
    | some row => row.2 args
    | none => .error .unknownMnemonic

/-- The request words of a program, one per line (R67). DESIGN CHOICE (log 16): a line without a mnemonic, blank or a
comment only, is skipped and spells no request; R67 speaks only of lines that hold one. -/
def assemble (lines : List (List Char)) : Except AsmError (List Req) :=
  match lines with
  | [] => .ok []
  | line :: rest =>
    match assembleLine line with
    | .ok i => (assemble rest).map fun ws => encode i :: ws
    | .error .emptyLine => assemble rest
    | .error e => .error e

end Sys2Proof.Machine
end

