-- ==== Sys2Proof/Machine/Agents.lean ====
section
/-! DEFINITION. The moves of the other agents (00_scope.md R2): the host's construction, request and reading, the
responder's levels; and the primitives of 40_primitives.md on their own. -/

namespace Sys2Proof.Machine

/-! ### The host -/

/-- `construct(dq_id, clk_id, rst_id)` (70_reset_and_hazards.md R125): refused unless the channels are pairwise
distinct. -/
def construct (cfg : Config) : Host.Outcome State Fault Refusal :=
  if cfg.wellFormed then .next (State.constructed cfg) else .refused .channelsNotDistinct

/-- A new construction on the same channels: refused while BUSY = 1 (70_reset_and_hazards.md R128). It makes a new
engine, so the observation starts anew; what belongs to the host and the responder stays (log 13). -/
def reconstruct (s : State) : Host.Outcome State Fault Refusal :=
  if s.busy then .refused .constructWhileBusy
  else .next { State.constructed s.cfg with
    requests := s.requests
    responder := s.responder
    draws := s.draws }

/-- The host submits a request: only while BUSY = 0 (10_state.md R29, 70_reset_and_hazards.md R137), and one operation
at a time, so only where it has none not yet accepted (00_scope.md R2; log 5). -/
def submit (w : Req) (s : State) : Host.Outcome State Fault Refusal :=
  if s.busy then .refused .requestWhileBusy
  else if s.requests = [] then .next { s with requests := [w] }
  else .refused .requestPending

/-- The host plans the operations it will submit, one at a time and in order (log 5). -/
def hostPlans (words : List Req) (s : State) : State :=
  { s with requests := s.requests ++ words }

/-- What the host can read, with no side effect (10_state.md R39). -/
structure HostView where
  busy : Bool
  done : Bool
  result : Result
  status : StatusCode
  fault : Bool
deriving DecidableEq, Repr

/-- The host's reading of the engine (10_state.md R39). -/
def hostView (s : State) : HostView :=
  { busy := s.busy, done := s.done, result := s.result, status := s.status, fault := s.fault }

/-! ### The responder -/

/-- The environment fixes the levels of the coming samples (00_scope.md R2; log 4). -/
def responderPresents (levels : List Level) (s : State) : State :=
  { s with responder := s.responder ++ levels }

/-! ### The primitives on their own (40_primitives.md R73, R74, R76, R78, R80, R83; log 14) -/

/-- A block on its own. DESIGN CHOICE (log 14): refused while BUSY = 1, where its events would fall inside the running
operation's session (20_memory.md R48); 70_reset_and_hazards.md R133 speaks only of END with SESSION closed. -/
def runPrimitive (ms : List MicroOp) (s : State) : Host.Outcome State Fault Refusal :=
  if s.busy then .refused .primitiveWhileBusy else .next (runBlock ms s)

/-- begin_session (R73). -/
def beginSession (s : State) : Host.Outcome State Fault Refusal := runPrimitive beginBlock s

/-- end_session (R74), refused where no session is open (70_reset_and_hazards.md R133). -/
def endSession (s : State) : Host.Outcome State Fault Refusal :=
  if s.session = .closed then .refused .endWithoutSession else runPrimitive endBlock s

/-- Command transmission (R76): any 8-bit value. -/
def sendCommand (c : Command) (s : State) : Host.Outcome State Fault Refusal := runPrimitive (tx8 c) s

/-- Data transmission (R78): any 9-bit value. -/
def sendData (v : Raw) (s : State) : Host.Outcome State Fault Refusal := runPrimitive (tx9 v) s

/-- Data reception (R80); its result is `SR`. -/
def receive (s : State) : Host.Outcome State Fault Refusal := runPrimitive rx9 s

/-- The settle wait (R83), to its end. -/
def settle (s : State) : Host.Outcome State Fault Refusal := runPrimitive settleBlock s

end Sys2Proof.Machine
end

