-- ==== Sys2Proof/Machine/Programs.lean ====
section
/-! DEFINITION. `prog(OP, OPERAND)` of 40_primitives.md R72 as one function of the operation, for the statements that
speak of every operation. -/

namespace Sys2Proof.Machine

/-- The micro-program of an operation (R72). -/
def program (c : Config) (i : Instr) : List MicroOp :=
  match i with
  | .readTemp _ => progReadTemp c
  | .writeTh x => progWriteTh c x
  | .writeTl x => progWriteTl c x
  | .readTh _ => progReadTh c
  | .readTl _ => progReadTl c
  | .readCounter _ => progReadCounter c
  | .readSlope _ => progReadSlope c
  | .startConvert _ => progStartConvert c
  | .stopConvert _ => progStopConvert c
  | .writeConfig x => progWriteConfig c x
  | .readConfig _ => progReadConfig c

end Sys2Proof.Machine
end

