-- ==== Sys2Proof/Safety.lean ====
section
/-! DEFINITION. What counts as a good run, the invariants of 10_state.md R37, the line protocol as a monitor of
traces, and the events of a frame: the terms the statements use. -/

namespace Sys2Proof.Machine

/-! ### Good runs (00_scope.md R11 (b), 70_reset_and_hazards.md R140) -/

/-- A run with `FAULT` set is never a good end. -/
def State.good (s : State) : Bool := !s.fault

/-- A run is finished when `BUSY = 0` and the host presents no further request. -/
def State.finished (s : State) : Bool := !s.busy && s.requests.isEmpty

/-- A good end (70_reset_and_hazards.md R140). -/
def State.goodEnd (s : State) : Bool := s.finished && s.good

/-! ### Framing: RST, CLK, the session and the direction of DQ -/

/-- The part of the state that session framing is about. -/
structure Framing where
  rst : LineLevel
  clk : LineLevel
  session : Session
  dqDir : Direction
deriving DecidableEq, Repr

/-- The framing of a state. -/
def State.framing (s : State) : Framing :=
  { rst := s.rstL, clk := s.clkL, session := s.session, dqDir := s.dqDir }

/-- The framing between operations before any session: nothing driven yet (10_state.md R38). -/
def framingAtReset : Framing :=
  { rst := .unknown, clk := .unknown, session := .closed, dqDir := .output }

/-- The framing between operations after a session: RST low, CLK parked high (10_state.md R37 (I3)). -/
def framingIdle : Framing :=
  { rst := .driven .low, clk := .driven .high, session := .closed, dqDir := .output }

/-- What a micro-operation does to the framing (40_primitives.md R70). -/
def Framing.after (m : MicroOp) (f : Framing) : Framing :=
  match m with
  | .drv .rst .low => { f with rst := .driven .low, session := .closed }
  | .drv .rst .high => { f with rst := .driven .high, session := .opened }
  | .drv .clk v => { f with clk := .driven v }
  | .drv .dq _ => f
  | .txBit _ _ => f
  | .rxBegin => { f with dqDir := .input }
  | .rxBit _ => f
  | .rxEnd => { f with dqDir := .output }
  | .wait => f
  | .post _ => f

/-- What a block of micro-operations does to the framing. -/
def Framing.afterAll (ms : List MicroOp) (f : Framing) : Framing :=
  ms.foldl (fun g m => g.after m) f

/-- The framing invariant. Idle: the framing is one of the two between operations, and no wait is outstanding. Busy: the
latched word spells an operation, `UPC` is inside its micro-program, a wait is outstanding only at a `WAIT`, and the
framing is what the carried-out part of the micro-program makes of one of the two (10_state.md R28, R37). -/
def State.framed (s : State) : Bool :=
  if s.busy then
    match decodeWord (reqWord s.operand s.op) with
    | .ok i =>
      decide (s.upc < (program s.cfg i).length) &&
        (s.waiting.isNone || (program s.cfg i)[s.upc]? == some .wait) &&
        (s.framing == framingAtReset.afterAll ((program s.cfg i).take s.upc) ||
          s.framing == framingIdle.afterAll ((program s.cfg i).take s.upc))
    | .error _ => false
  else s.waiting.isNone && (s.framing == framingAtReset || s.framing == framingIdle)

/-! ### The line protocol as a monitor of traces -/

/-- The framing a line event leads to, or none where the line protocol forbids the event:
- DQ is driven only as an output, in a session, with CLK high (10_state.md R37 (I4), 70_reset_and_hazards.md R142);
- RST rises only with no session open and CLK high (R129), and falls only with DQ an output and CLK not low;
- CLK falls only in a session and from high (R79), and rises from low, or is parked high before RST rises (R73);
- DQ becomes an input, and an output again, only in a session with CLK high (R132);
- DQ is sampled only as an input, in a session, after a falling edge (R136);
- a wait stands only in a session with CLK high and DQ an output (R83). -/
def Framing.onEvent (f : Framing) (e : Event) : Option Framing :=
  match e with
  | .drive .dq _ =>
    if f.session = .opened ∧ f.clk = .driven .high ∧ f.dqDir = .output then some f else none
  | .drive .rst .high =>
    if f.session = .closed ∧ f.rst = .driven .low ∧ f.clk = .driven .high ∧ f.dqDir = .output then
      some { f with rst := .driven .high, session := .opened }
    else none
  | .drive .rst .low =>
    if f.dqDir = .output ∧ f.clk ≠ .driven .low then
      some { f with rst := .driven .low, session := .closed }
    else none
  | .drive .clk .low =>
    if f.session = .opened ∧ f.clk = .driven .high then some { f with clk := .driven .low } else none
  | .drive .clk .high =>
    if (f.session = .opened ∧ f.clk = .driven .low) ∨ (f.session = .closed ∧ f.rst = .driven .low) then
      some { f with clk := .driven .high }
    else none
  | .dir .dq .input =>
    if f.session = .opened ∧ f.clk = .driven .high ∧ f.dqDir = .output then
      some { f with dqDir := .input }
    else none
  | .dir .dq .output =>
    if f.session = .opened ∧ f.clk = .driven .high ∧ f.dqDir = .input then
      some { f with dqDir := .output }
    else none
  | .dir _ _ => none
  | .sample _ =>
    if f.session = .opened ∧ f.clk = .driven .low ∧ f.dqDir = .input then some f else none
  | .wait _ =>
    if f.session = .opened ∧ f.clk = .driven .high ∧ f.dqDir = .output then some f else none

/-- The framing a list of events leads to, or none where one of them is forbidden. -/
def monitor (f : Framing) (es : List Event) : Option Framing :=
  match es with
  | [] => some f
  | e :: rest =>
    match f.onEvent e with
    | some g => monitor g rest
    | none => none

/-- The trace starts with construction's events (70_reset_and_hazards.md R125), keeps to the line protocol after them,
and leads to the framing the registers show. -/
def State.traceLegal (s : State) : Bool :=
  s.trace.take 3 == constructionEvents && monitor framingAtReset (s.trace.drop 3) == some s.framing

/-! ### The line registers as facts of the trace (00_scope.md R10, 10_state.md R21, R22) -/

/-- The level a trace last drove on a line. -/
def lastDriven (l : Line) (es : List Event) : LineLevel :=
  es.foldl (fun acc e => if e = .drive l .low then .driven .low else if e = .drive l .high then .driven .high else acc)
    .unknown

/-- The direction a trace last set on DQ. -/
def lastDirection (es : List Event) : Direction :=
  es.foldl (fun acc e => if e = .dir .dq .input then .input else if e = .dir .dq .output then .output else acc)
    .output

/-- Every line register holds what the trace says was last done to its line, and `SESSION` is OPEN exactly when RST
was last driven HIGH (10_state.md R21, R22, R23). -/
def State.linesFromTrace (s : State) : Bool :=
  s.rstL == lastDriven .rst s.trace && s.clkL == lastDriven .clk s.trace && s.dqL == lastDriven .dq s.trace &&
    s.dqDir == lastDirection s.trace &&
    s.session == (if lastDriven .rst s.trace = .driven .high then .opened else .closed)

/-! ### What the rules say of each operation, apart from its micro-program -/

/-- A read operation's command and the value it returns for a received frame, as 42_read_ops.md R95 to R100 and
41_codec.md R86 state it. -/
def readsAs (c : Config) (i : Instr) : Option (Command × (Raw → Result)) :=
  match i with
  | .readTemp _ => some (c.cmdReadTemp, fun v => BitVec.ofInt 16 (v.toInt.tdiv 2))
  | .readTh _ => some (c.cmdReadTh, fun v => BitVec.ofNat 16 (v.toNat / 2))
  | .readTl _ => some (c.cmdReadTl, fun v => BitVec.ofNat 16 (v.toNat / 2))
  | .readCounter _ => some (c.cmdReadCounter, fun v => BitVec.ofNat 16 v.toNat)
  | .readSlope _ => some (c.cmdReadSlope, fun v => BitVec.ofNat 16 v.toNat)
  | .readConfig _ => some (c.cmdReadConfig, fun v => BitVec.ofNat 16 (v.toNat % 256))
  | .writeTh _ => none
  | .writeTl _ => none
  | .startConvert _ => none
  | .stopConvert _ => none
  | .writeConfig _ => none

/-- A threshold write's command and operand (43_write_ops.md R102, R103). -/
def writesThreshold (c : Config) (i : Instr) : Option (Command × Operand) :=
  match i with
  | .writeTh x => some (c.cmdWriteTh, x)
  | .writeTl x => some (c.cmdWriteTl, x)
  | .readTemp _ => none
  | .readTh _ => none
  | .readTl _ => none
  | .readCounter _ => none
  | .readSlope _ => none
  | .startConvert _ => none
  | .stopConvert _ => none
  | .writeConfig _ => none
  | .readConfig _ => none

/-- A conversion-control operation's command (44_conversion_ops.md R107, R108). -/
def controlsConversion (c : Config) (i : Instr) : Option Command :=
  match i with
  | .startConvert _ => some c.cmdStartConvert
  | .stopConvert _ => some c.cmdStopConvert
  | .readTemp _ => none
  | .writeTh _ => none
  | .writeTl _ => none
  | .readTh _ => none
  | .readTl _ => none
  | .readCounter _ => none
  | .readSlope _ => none
  | .writeConfig _ => none
  | .readConfig _ => none

/-- The command an operation's first session sends (30_encoding.md R60, R65). -/
def firstCommand (c : Config) (i : Instr) : Command :=
  match i with
  | .readTemp _ => c.cmdReadTemp
  | .writeTh _ => c.cmdWriteTh
  | .writeTl _ => c.cmdWriteTl
  | .readTh _ => c.cmdReadTh
  | .readTl _ => c.cmdReadTl
  | .readCounter _ => c.cmdReadCounter
  | .readSlope _ => c.cmdReadSlope
  | .startConvert _ => c.cmdStartConvert
  | .stopConvert _ => c.cmdStopConvert
  | .writeConfig _ => c.cmdWriteConfig
  | .readConfig _ => c.cmdReadConfig

/-- The operation opens a session: every one but a rejected WRITE_CONFIG (40_primitives.md R75). -/
def opensSession (i : Instr) : Bool :=
  match i with
  | .writeConfig x => decide (0 < x.toInt)
  | .readTemp _ => true
  | .writeTh _ => true
  | .writeTl _ => true
  | .readTh _ => true
  | .readTl _ => true
  | .readCounter _ => true
  | .readSlope _ => true
  | .startConvert _ => true
  | .stopConvert _ => true
  | .readConfig _ => true

/-- The engine is carrying out this operation and has reached this index of its micro-program. -/
abbrev State.carryingOut (s : State) (i : Instr) (k : Nat) : Prop :=
  s.busy = true ∧ s.op = i.opcode ∧ s.operand = i.operand ∧ s.upc = k

/-- The host presents the request word `w`, and the engine is idle. -/
abbrev State.presents (s : State) (w : Req) (rest : List Req) : Prop :=
  s.busy = false ∧ s.requests = w :: rest

/-! ### Words of an assembler line (30_encoding.md R67) -/

/-- The number a list of decimal digits spells. -/
def decimalValue (digits : List Char) : Nat :=
  digits.foldl (fun n c => 10 * n + (c.toNat - '0'.toNat)) 0

/-- The hexadecimal digit of four bits, in capitals or not. -/
def hexDigit (capital : Bool) (d : BitVec 4) : Char :=
  (if capital then "0123456789ABCDEF".toList else "0123456789abcdef".toList).getD d.toNat '0'

/-! ### Frames as events -/

/-- One clock pulse (00_scope.md, Glossary). -/
def pulse : List Event := [.drive .clk .low, .drive .clk .high]

/-- The events of BEGIN (40_primitives.md R73). -/
def beginEvents : List Event := [.drive .rst .low, .drive .clk .high, .drive .rst .high]

/-- The events of END (R74). -/
def endEvents : List Event := [.drive .rst .low]

/-- The events that send `bits`, in order: each is driven on DQ, then one pulse (R76, R78). -/
def sentEvents (bits : List Bool) : List Event :=
  bits.flatMap fun b => .drive .dq (levelOf b) :: pulse

/-- The events that receive `bits`, in order: DQ an input, each bit sampled inside a pulse, DQ an output (R80). -/
def receivedEvents (bits : List Bool) : List Event :=
  .dir .dq .input :: (bits.flatMap fun b => [.drive .clk .low, .sample b, .drive .clk .high]) ++ [.dir .dq .output]

/-- The n low bits of a word, least significant first (20_memory.md R44). -/
def lsbFirst {w : Nat} (n : Nat) (v : BitVec w) : List Bool := (List.range n).map fun i => v.getLsbD i

/-- The line events of a read operation (42_read_ops.md R94). -/
def readEvents (c : Command) (received : List Bool) : List Event :=
  beginEvents ++ sentEvents (lsbFirst 8 c) ++ receivedEvents received ++ endEvents

/-- The line events of a threshold write (43_write_ops.md R102): the frame is `{OPERAND[7:0], 0}` (41_codec.md R90). -/
def thresholdWriteEvents (c : Command) (x : Operand) (ms : Nat) : List Event :=
  beginEvents ++ sentEvents (lsbFirst 8 c) ++ sentEvents (false :: lsbFirst 8 x) ++ [.wait ms] ++ endEvents

/-- The line events of WRITE_CONFIG's first session (43_write_ops.md R104). -/
def configWriteEvents (c : Command) (x : Operand) (ms : Nat) : List Event :=
  beginEvents ++ sentEvents (lsbFirst 8 c) ++ sentEvents (lsbFirst 8 x) ++ [.wait ms] ++ endEvents

/-- The line events of a conversion-control operation (44_conversion_ops.md R106). -/
def commandEvents (c : Command) : List Event :=
  beginEvents ++ sentEvents (lsbFirst 8 c) ++ endEvents

/-- The clock pulses of a list of events: its falling edges of CLK (70_reset_and_hazards.md R138). -/
def pulses (es : List Event) : Nat := es.count (.drive .clk .low)

/-- The micro-operation issues a `Drive` of this line (70_reset_and_hazards.md R138). -/
def MicroOp.drives (l : Line) (m : MicroOp) : Bool :=
  match m with
  | .drv k _ => k == l
  | .txBit _ _ => l == .dq
  | .rxBegin => false
  | .rxBit _ => false
  | .rxEnd => false
  | .wait => false
  | .post _ => false

/-- The micro-operation issues a `SetDir`. -/
def MicroOp.setsDirection (m : MicroOp) : Bool :=
  match m with
  | .drv _ _ => false
  | .txBit _ _ => false
  | .rxBegin => true
  | .rxBit _ => false
  | .rxEnd => true
  | .wait => false
  | .post _ => false

/-- The micro-operation issues a `Sample`. -/
def MicroOp.samples (m : MicroOp) : Bool :=
  match m with
  | .drv _ _ => false
  | .txBit _ _ => false
  | .rxBegin => false
  | .rxBit _ => true
  | .rxEnd => false
  | .wait => false
  | .post _ => false

/-- The micro-operation issues a `Wait`. -/
def MicroOp.waits (m : MicroOp) : Bool :=
  match m with
  | .drv _ _ => false
  | .txBit _ _ => false
  | .rxBegin => false
  | .rxBit _ => false
  | .rxEnd => false
  | .wait => true
  | .post _ => false

/-- What R138 counts in a micro-program: its entries, and its Drive(RST), Drive(CLK), Drive(DQ), SetDir, Sample and
Wait events. -/
def eventCounts (ms : List MicroOp) : List Nat :=
  [ms.length, ms.countP (MicroOp.drives .rst), ms.countP (MicroOp.drives .clk), ms.countP (MicroOp.drives .dq),
   ms.countP MicroOp.setsDirection, ms.countP MicroOp.samples, ms.countP MicroOp.waits]

/-- The bits of the nine coming samples, in order (42_read_ops.md, `r0 … r8`). -/
def State.samples (s : State) : List Bool := (List.range 9).map fun k => bitOf (s.sampleLevel k)

/-- The 9-bit value whose bit i is the i-th coming sample (40_primitives.md R82). -/
def State.sampledFrame (s : State) : Raw := BitVec.ofNat 9 (s.samples.foldr (fun b n => b.toNat + 2 * n) 0)

end Sys2Proof.Machine
end

