-- ==== Sys2Proof/Certificates/Slice0/Obligations.lean ====
section
/-! DEFINITION. The statements for the provers, from the numbered rules of spec/. -/

open Sys2Proof Sys2Proof.Machine

/-! ### Decoding and encoding -/

/-- Request words written out bit by bit from 30_encoding.md R56 and R57 decode to the operations they stand for. -/
def Obligations.WrittenWordsDecode : Prop :=
  decodeWord 0b0000_0000_0000_0000_0000#20 = .ok (.readTemp 0) ∧
  decodeWord 0b1010_1011_1100_1101_0000#20 = .ok (.readTemp 0xABCD) ∧
  decodeWord 0b1111_1111_1111_0110_0001#20 = .ok (.writeTh (BitVec.ofInt 16 (-10))) ∧
  decodeWord 0b0000_0000_0000_0010_1001#20 = .ok (.writeConfig 2) ∧
  decodeWord 0b0000_0000_0000_0000_0111#20 = .ok (.startConvert 0) ∧
  decodeWord 0b0001_0010_0011_0100_1111#20 = .error (.reservedOp 0xF)

/-- 30_encoding.md R57 and R69: `REQ[3:0]` alone selects one of the eleven operations, with `REQ[19:4]` as its operand
bits, or the reserved outcome; no other outcome exists. -/
def Obligations.OpCodeAloneSelects : Prop :=
  (∀ x : Operand,
    decodeWord (x ++ 0x0#4) = .ok (.readTemp x) ∧
    decodeWord (x ++ 0x1#4) = .ok (.writeTh x) ∧
    decodeWord (x ++ 0x2#4) = .ok (.writeTl x) ∧
    decodeWord (x ++ 0x3#4) = .ok (.readTh x) ∧
    decodeWord (x ++ 0x4#4) = .ok (.readTl x) ∧
    decodeWord (x ++ 0x5#4) = .ok (.readCounter x) ∧
    decodeWord (x ++ 0x6#4) = .ok (.readSlope x) ∧
    decodeWord (x ++ 0x7#4) = .ok (.startConvert x) ∧
    decodeWord (x ++ 0x8#4) = .ok (.stopConvert x) ∧
    decodeWord (x ++ 0x9#4) = .ok (.writeConfig x) ∧
    decodeWord (x ++ 0xA#4) = .ok (.readConfig x)) ∧
  (∀ (x : Operand) (o : OpCode), 0xB ≤ o.toNat → decodeWord (x ++ o) = .error (.reservedOp o)) ∧
  ∀ w : Req, ∃ (x : Operand) (o : OpCode), w = x ++ o ∧ x = w.extractLsb' 4 16 ∧ o = w.extractLsb' 0 4

/-- Decoding and encoding are inverse to each other: every operation with every operand is read back from its word, and
every word that spells an operation is that operation's word. -/
def Obligations.DecodeEncodeInverse : Prop :=
  (∀ i : Instr, i.wellFormed = true ∧ decodeWord (encode i) = .ok i) ∧
  (∀ (w : Req) (i : Instr), decodeWord w = .ok i → encode i = w) ∧
  ∀ w : Req, (∃ i, decodeWord w = .ok i) ↔ w.toNat % 16 < 11

/-- The assembler (30_encoding.md R67). A decimal word is the operand of its signed value exactly where that lies in
[-32768, 32767]; `0xHHHH` is its 16 bits. A line of each of the three writes with a legal operand spells that operation,
and with an illegal one none; a line of each other mnemonic spells its operation with OPERAND = 0; a line's word is its
operation's; `;` begins a comment. That blanks separate words, that hexadecimal digits may be of either case and what
an illegal line answers are the model's (log 16). -/
def Obligations.AssemblerOperandRange : Prop :=
  (∀ ds : List Char, ds ≠ [] → (∀ c ∈ ds, c ∈ "0123456789".toList) →
    (decimalValue ds ≤ 32767 → ∃ x, parseOperand ds = some x ∧ x.toInt = (decimalValue ds : Int)) ∧
    (32767 < decimalValue ds → parseOperand ds = none) ∧
    (decimalValue ds ≤ 32768 → ∃ x, parseOperand ('-' :: ds) = some x ∧ x.toInt = -(decimalValue ds : Int)) ∧
    (32768 < decimalValue ds → parseOperand ('-' :: ds) = none)) ∧
  (∀ (k l m n : Bool) (a b c d : BitVec 4),
    parseOperand ['0', 'x', hexDigit k a, hexDigit l b, hexDigit m c, hexDigit n d] = some (a ++ b ++ c ++ d)) ∧
  (∀ (word : List Char) (x : Operand), parseOperand word = some x →
    assembleLine ("WRITE_TH ".toList ++ word) = .ok (.writeTh x) ∧
    assembleLine ("WRITE_TL ".toList ++ word) = .ok (.writeTl x) ∧
    assembleLine ("WRITE_CONFIG ".toList ++ word) = .ok (.writeConfig x)) ∧
  (∀ word : List Char, word ≠ [] → (∀ c ∈ word, c ≠ ' ' ∧ c ≠ '\t' ∧ c ≠ ';') → parseOperand word = none →
    assembleLine ("WRITE_TH ".toList ++ word) = .error .badOperand ∧
    assembleLine ("WRITE_TL ".toList ++ word) = .error .badOperand ∧
    assembleLine ("WRITE_CONFIG ".toList ++ word) = .error .badOperand) ∧
  assembleLine "READ_TEMP".toList = .ok (.readTemp 0) ∧
  assembleLine "READ_TH".toList = .ok (.readTh 0) ∧
  assembleLine "READ_TL".toList = .ok (.readTl 0) ∧
  assembleLine "READ_COUNTER".toList = .ok (.readCounter 0) ∧
  assembleLine "READ_SLOPE".toList = .ok (.readSlope 0) ∧
  assembleLine "START_CONVERT".toList = .ok (.startConvert 0) ∧
  assembleLine "STOP_CONVERT".toList = .ok (.stopConvert 0) ∧
  assembleLine "READ_CONFIG".toList = .ok (.readConfig 0) ∧
  (∀ (line : List Char) (i : Instr), assembleLine line = .ok i → i.assemblerForm = true) ∧
  (∀ (line : List Char) (lines : List (List Char)) (i : Instr) (words : List Req),
    assembleLine line = .ok i → assemble lines = .ok words → assemble (line :: lines) = .ok (encode i :: words)) ∧
  ∀ line comment : List Char, assembleLine (line ++ ';' :: comment) = assembleLine line

/-! ### The engine's step -/

/-- A step runs the decoded operation: where the engine is busy, the latched one (its next move, the platform's while the
engine waits, log 12); where it is idle, the one the host's word spells. Nothing is added around `exec`. `withFetchWord` presents a word so that the very next step runs it.
Without a request an idle engine's step changes nothing; that this is a step at all is the model's choice (log 5). -/
def Obligations.StepRunsDecodedOperation : Prop :=
  (∀ (s : State) (i : Instr), s.busy = true → decodeWord (reqWord s.operand s.op) = .ok i → step s = exec i s) ∧
  (∀ (s : State) (w : Req) (rest : List Req) (i : Instr), s.presents w rest → decodeWord w = .ok i →
    step s = exec i s) ∧
  (∀ (s : State) (nbits w : Nat) (i : Instr), decodeTableWord nbits w = some i →
    step (s.withFetchWord nbits w) = exec i (s.withFetchWord nbits w)) ∧
  (∀ s : State, s.busy = false → s.requests = [] → step s = .next s)

/-- 40_primitives.md R71, the engine's step. ACCEPT consumes the request and latches it, or, where its OP is reserved,
raises FAULT_ILLEGAL_OP. While `BUSY = 1` the micro-operation at `UPC` of the latched operation is carried out, `UPC`
advances by 1, and a presented request is not consumed; at `WAIT` the engine issues the wait, and `UPC` advances when
the platform ends it (R70). Every micro-program ends with its one `POST`. The model's: `requests` is the host's
operations (log 5), `completions` the observation (log 6), the rejection a next state (log 7), and the two moves of a
`WAIT` two steps (log 12). -/
def Obligations.EngineStepRule : Prop :=
  (∀ (s : State) (w : Req) (rest : List Req), s.presents w rest → (w.extractLsb' 0 4).toNat < 0xB →
    step s = .next { s with
      done := false
      op := w.extractLsb' 0 4
      operand := w.extractLsb' 4 16
      upc := 0
      busy := true
      requests := rest }) ∧
  (∀ (s : State) (w : Req) (rest : List Req), s.presents w rest → 0xB ≤ (w.extractLsb' 0 4).toNat →
    step s = .next { s with
      fault := true
      done := true
      completions := s.completions ++ [{ result := s.result, status := s.status, done := true, fault := true }]
      requests := rest }) ∧
  (∀ (s : State) (i : Instr) (m : MicroOp), s.busy = true → s.op = i.opcode → s.operand = i.operand →
    (program s.cfg i)[s.upc]? = some m → m ≠ .wait →
    step s = .next { microStep m s with upc := s.upc + 1 } ∧ (microStep m s).requests = s.requests) ∧
  (∀ (s : State) (i : Instr), s.busy = true → s.op = i.opcode → s.operand = i.operand →
    (program s.cfg i)[s.upc]? = some .wait →
    (s.waiting = none → step s = .next { s with
      waiting := some s.cfg.writeSettleMs
      trace := s.trace ++ [.wait s.cfg.writeSettleMs] }) ∧
    (s.waiting ≠ none → step s = .next { s with waiting := none, upc := s.upc + 1 })) ∧
  (∀ (c : Config) (i : Instr) (k : Nat), k < (program c i).length →
    ((∃ p, (program c i)[k]? = some (.post p)) ↔ k + 1 = (program c i).length))

/-- Every operation is accepted by an idle engine: `exec` answers the state with the operation latched, and nothing
else changed (40_primitives.md R71, ACCEPT). -/
def Obligations.IdleEngineAcceptsEveryOperation : Prop :=
  ∀ (i : Instr) (s : State), s.busy = false →
    exec i s = .next { s with
      done := false
      op := i.opcode
      operand := i.operand
      upc := 0
      busy := true
      requests := s.requests.tail }

/-- 40_primitives.md R70: the effect of each micro-operation, every register it writes and nothing else; that of `WAIT`
is its effect when the platform has ended the wait (log 12). The bit a sample gives is any bit (log 4). -/
def Obligations.MicroOperationEffects : Prop :=
  (∀ (s : State) (v : Level), microStep (.drv .clk v) s =
    { s with clkL := .driven v, trace := s.trace ++ [.drive .clk v] }) ∧
  (∀ (s : State) (v : Level), microStep (.drv .dq v) s =
    { s with dqL := .driven v, trace := s.trace ++ [.drive .dq v] }) ∧
  (∀ s : State, microStep (.drv .rst .high) s =
    { s with rstL := .driven .high, session := .opened, trace := s.trace ++ [.drive .rst .high] }) ∧
  (∀ s : State, microStep (.drv .rst .low) s =
    { s with rstL := .driven .low, session := .closed, trace := s.trace ++ [.drive .rst .low] }) ∧
  (∀ (s : State) (f : Raw), microStep (.txBit f 0) s =
    { s with
      sr := f
      dqL := .driven (if f.getLsbD 0 then .high else .low)
      bitIdx := 0
      trace := s.trace ++ [.drive .dq (if f.getLsbD 0 then .high else .low)] }) ∧
  (∀ (s : State) (f : Raw) (i : BitIndex), i ≠ 0 → microStep (.txBit f i) s =
    { s with
      dqL := .driven (if s.sr.getLsbD i.val then .high else .low)
      bitIdx := i
      trace := s.trace ++ [.drive .dq (if s.sr.getLsbD i.val then .high else .low)] }) ∧
  (∀ s : State, microStep .rxBegin s =
    { s with dqDir := .input, sr := 0, trace := s.trace ++ [.dir .dq .input] }) ∧
  (∀ (s : State) (i : BitIndex), ∃ (b : Bool) (r : Raw),
    (∀ j : Nat, r.getLsbD j = (s.sr.getLsbD j || (decide (j = i.val) && b))) ∧
    microStep (.rxBit i) s =
      { s with
        sr := r
        bitIdx := i
        responder := s.responder.drop 1
        draws := s.draws + 1
        trace := s.trace ++ [.sample b] }) ∧
  (∀ s : State, microStep .rxEnd s =
    { s with dqDir := .output, trace := s.trace ++ [.dir .dq .output] }) ∧
  (∀ s : State, microStep .wait s = { s with waiting := none, trace := s.trace ++ [.wait s.cfg.writeSettleMs] }) ∧
  (∀ (s : State) (p : Post), ∃ (r : Result) (c : StatusCode), microStep (.post p) s =
    { s with
      result := r
      status := c
      busy := false
      done := true
      completions := s.completions ++ [{ result := r, status := c, done := true, fault := s.fault }] })

/-- 60_exceptions.md R109: no micro-operation can fail. Inside its micro-program, `exec` of the operation being carried
out answers a next state: the micro-operation's effect with `UPC` one further. A `WAIT` reaches it in two moves, the
engine's and the platform's (log 12). -/
def Obligations.EveryMicroOperationCompletes : Prop :=
  ∀ (i : Instr) (s : State) (k : Nat), s.carryingOut i k → k < (program s.cfg i).length →
    ∃ m, (program s.cfg i)[k]? = some m ∧
      (m ≠ .wait → exec i s = .next { microStep m s with upc := k + 1 }) ∧
      (m = .wait → s.waiting = none →
        ∃ t, exec i s = .next t ∧ exec i t = .next { microStep m s with upc := k + 1 }) ∧
      (m = .wait → s.waiting ≠ none → exec i s = .next { s with waiting := none, upc := k + 1 })

/-- The platform ends the wait (00_scope.md R2) that blocks the engine (40_primitives.md R83): from a framed state in
which a wait is outstanding, the step issues no line event and changes nothing but `UPC`, which passes the `WAIT`; and
what follows is the session's END, so no event comes before the wait has ended (20_memory.md R51). That the wait ends
at the next step is the model's (log 12). -/
def Obligations.PlatformEndsTheWait : Prop :=
  ∀ (s : State) (ms : Nat), s.framed = true → s.waiting = some ms →
    s.busy = true ∧ s.session = .opened ∧
    step s = .next { s with waiting := none, upc := s.upc + 1 } ∧
    ∀ i, decodeWord (reqWord s.operand s.op) = .ok i →
      (program s.cfg i)[s.upc]? = some .wait ∧ (program s.cfg i)[s.upc + 1]? = some (.drv .rst .low)

/-- A host request while the engine is busy with another operation has no meaning (00_scope.md R11 (c),
70_reset_and_hazards.md R137): `exec` and `submit` refuse it. The host submits one operation at a time (R2): `submit`
takes a word where none is waiting for acceptance. That `exec` reads the latched operation to tell another is the
model's (log 9), and so are the list that holds the word and the refusal of a second one (log 5). -/
def Obligations.RequestWhileBusyRefused : Prop :=
  (∀ (i : Instr) (s : State), s.busy = true → ¬ (s.op = i.opcode ∧ s.operand = i.operand) →
    exec i s = .refused .requestWhileBusy) ∧
  (∀ (w : Req) (s : State), s.busy = true → submit w s = .refused .requestWhileBusy) ∧
  (∀ (w : Req) (s : State), s.busy = false → s.requests = [] → submit w s = .next { s with requests := [w] }) ∧
  (∀ (w : Req) (s : State), s.busy = false → s.requests ≠ [] → submit w s = .refused .requestPending) ∧
  (∀ s t : State, s.busy = true → step s = .next t → t.requests = s.requests)

/-- 00_scope.md R11 (a): a step issues at most one line event, and keeps the trace before it. -/
def Obligations.OneLineEventPerStep : Prop :=
  ∀ s t : State, step s = .next t → t.trace = s.trace ∨ ∃ e, t.trace = s.trace ++ [e]

/-! ### FAULT_ILLEGAL_OP -/

/-- 60_exceptions.md R111, R116 and 30_encoding.md R58: a reserved OP spells no operation, whatever the operand bits;
in an idle engine it sets `FAULT` and `DONE`, whatever they were, issues no line event and leaves every other register
as it was; the request is consumed and completed. The model's: that this is a next state, which R11 (b) lists as the
fault outcome (log 7), and the fields `requests` and `completions` (logs 5, 6). -/
def Obligations.ReservedOpRaisesFault : Prop :=
  ∀ (s : State) (x : Operand) (o : OpCode) (rest : List Req), s.presents (x ++ o) rest →
    o ∈ [0xB#4, 0xC#4, 0xD#4, 0xE#4, 0xF#4] →
    (∀ i, decodeWord (x ++ o) ≠ .ok i) ∧
    step s = .next { s with
      fault := true
      done := true
      requests := rest
      completions := s.completions ++ [{ result := s.result, status := s.status, done := true, fault := true }] }

/-- 10_state.md R33 and R37 (I5): no step clears `FAULT`, and only ACCEPT of a reserved OP sets it. -/
def Obligations.FaultIsSticky : Prop :=
  ∀ s t : State, step s = .next t →
    (s.fault = true → t.fault = true) ∧
    (s.fault = false → t.fault = true → s.busy = false ∧ ∃ w rest, s.requests = w :: rest ∧
      0xB ≤ (w.extractLsb' 0 4).toNat)

/-- 10_state.md R33, "No operation reads it", and 60_exceptions.md R111, later requests "run normally": two runs that
differ only in `FAULT` (and in the completion records, which report it) do the same at every step. -/
def Obligations.FaultIsReadByNoStep : Prop :=
  ∀ (s : State) (b : Bool) (cs : List Completion),
    match step s, step { s with fault := b, completions := cs } with
    | .next t, .next u => u = { t with fault := u.fault, completions := u.completions }
    | .fault r, .fault q => r = q
    | .refused r, .refused q => r = q
    | _, _ => False

/-! ### What each operation does at its POST -/

/-- READ_TEMP (42_read_ops.md R95 with 41_codec.md R86): at its POST `RESULT` becomes the received value, as 9-bit
two's complement, halved toward zero and sign-extended to 16 bits; the engine is then idle and done; nothing else
changes. -/
def Obligations.ReadTempResult : Prop :=
  ∀ (s : State) (x : Operand), s.carryingOut (.readTemp x) 57 →
    exec (.readTemp x) s = .next { s with
      result := BitVec.ofInt 16 (s.sr.toInt.tdiv 2)
      busy := false
      done := true
      upc := 58
      completions := s.completions ++
        [{ result := BitVec.ofInt 16 (s.sr.toInt.tdiv 2), status := s.status, done := true, fault := s.fault }] }

/-- READ_TH and READ_TL (42_read_ops.md R96, R97): at the POST `RESULT` becomes the received value halved, with no sign
handling; the engine is then idle and done; nothing else changes. -/
def Obligations.ReadThresholdResult : Prop :=
  ∀ (s : State) (i : Instr) (x : Operand), i = .readTh x ∨ i = .readTl x → s.carryingOut i 57 →
    exec i s = .next { s with
      result := BitVec.ofNat 16 (s.sr.toNat / 2)
      busy := false
      done := true
      upc := 58
      completions := s.completions ++
        [{ result := BitVec.ofNat 16 (s.sr.toNat / 2), status := s.status, done := true, fault := s.fault }] }

/-- READ_COUNTER and READ_SLOPE (42_read_ops.md R98, R99): at the POST `RESULT` becomes the received nine bits,
zero-extended; the engine is then idle and done; nothing else changes. -/
def Obligations.ReadRawResult : Prop :=
  ∀ (s : State) (i : Instr) (x : Operand), i = .readCounter x ∨ i = .readSlope x → s.carryingOut i 57 →
    exec i s = .next { s with
      result := BitVec.ofNat 16 s.sr.toNat
      busy := false
      done := true
      upc := 58
      completions := s.completions ++
        [{ result := BitVec.ofNat 16 s.sr.toNat, status := s.status, done := true, fault := s.fault }] }

/-- READ_CONFIG (42_read_ops.md R100): at its POST `RESULT` becomes the low eight received bits, zero-extended; the
engine is then idle and done; nothing else changes. -/
def Obligations.ReadConfigResult : Prop :=
  ∀ (s : State) (x : Operand), s.carryingOut (.readConfig x) 57 →
    exec (.readConfig x) s = .next { s with
      result := BitVec.ofNat 16 (s.sr.toNat % 256)
      busy := false
      done := true
      upc := 58
      completions := s.completions ++
        [{ result := BitVec.ofNat 16 (s.sr.toNat % 256), status := s.status, done := true, fault := s.fault }] }

/-- WRITE_CONFIG of a positive value (43_write_ops.md R104): at its POST `STATUS` becomes 0 where the low eight
read-back bits equal the whole signed operand, else 1; the engine is then idle and done; nothing else changes. For an
operand above 255 the status is 1. -/
def Obligations.WriteConfigVerifies : Prop :=
  (∀ (s : State) (x : Operand), 0 < x.toInt → s.carryingOut (.writeConfig x) 110 →
    exec (.writeConfig x) s = .next { s with
      status := if ((s.sr.toNat % 256 : Nat) : Int) = x.toInt then 0#2 else 1#2
      busy := false
      done := true
      upc := 111
      completions := s.completions ++
        [{ result := s.result, status := if ((s.sr.toNat % 256 : Nat) : Int) = x.toInt then 0#2 else 1#2,
           done := true, fault := s.fault }] }) ∧
  (∀ (s t : State) (x : Operand), 256 ≤ x.toInt → s.carryingOut (.writeConfig x) 110 →
    exec (.writeConfig x) s = .next t → t.status = 1#2)

/-- WRITE_CONFIG of a value at or below 0 (43_write_ops.md R104): its whole micro-program is the POST that sets
`STATUS` to 2; it issues no line event and changes nothing else. -/
def Obligations.WriteConfigRejects : Prop :=
  ∀ (s : State) (x : Operand), x.toInt ≤ 0 → s.carryingOut (.writeConfig x) 0 →
    exec (.writeConfig x) s = .next { s with
      status := 2#2
      busy := false
      done := true
      upc := 1
      completions := s.completions ++ [{ result := s.result, status := 2#2, done := true, fault := s.fault }] }

/-- WRITE_TH, WRITE_TL, START_CONVERT and STOP_CONVERT (43_write_ops.md R102, R103, 44_conversion_ops.md R107, R108):
at the POST the engine becomes idle and done, and no other register changes. -/
def Obligations.SilentPostsWriteNoRegister : Prop :=
  ∀ (s : State) (i : Instr) (x : Operand) (k : Nat),
    ((i = .writeTh x ∨ i = .writeTl x) ∧ k = 56) ∨ ((i = .startConvert x ∨ i = .stopConvert x) ∧ k = 28) →
    s.carryingOut i k →
    exec i s = .next { s with
      busy := false
      done := true
      upc := k + 1
      completions := s.completions ++ [{ result := s.result, status := s.status, done := true, fault := s.fault }] }

/-! ### What each operation sends -/

/-- Every operation that opens a session sends its command in its first session (40_primitives.md R76, 30_encoding.md
R60, R62): for k = 0 to 7 the micro-operation 3 + 3k drives bit k of the command on DQ; nothing else changes but `SR`
at the first bit, `BITIDX` and `UPC`. -/
def Obligations.CommandBitsOnTheWire : Prop :=
  ∀ (i : Instr) (s : State) (k : BitIndex), opensSession i = true → k.val < 8 → s.carryingOut i (3 + 3 * k.val) →
    (k ≠ 0 → s.sr = (firstCommand s.cfg i).setWidth 9) →
    exec i s = .next { s with
      sr := (firstCommand s.cfg i).setWidth 9
      dqL := .driven (if (firstCommand s.cfg i).getLsbD k.val then .high else .low)
      bitIdx := k
      upc := 4 + 3 * k.val
      trace := s.trace ++ [.drive .dq (if (firstCommand s.cfg i).getLsbD k.val then .high else .low)] }

/-- WRITE_TH and WRITE_TL send the operand doubled, mod 2^9, as nine bits (43_write_ops.md R102, R103, 41_codec.md
R90): for k = 0 to 8 the micro-operation 27 + 3k drives bit k of `(2 * OPERAND) mod 512` on DQ. -/
def Obligations.ThresholdBitsOnTheWire : Prop :=
  ∀ (i : Instr) (x : Operand) (s : State) (k : BitIndex), i = .writeTh x ∨ i = .writeTl x →
    s.carryingOut i (27 + 3 * k.val) →
    (k ≠ 0 → s.sr = BitVec.ofNat 9 ((2 * x.toNat) % 512)) →
    exec i s = .next { s with
      sr := BitVec.ofNat 9 ((2 * x.toNat) % 512)
      dqL := .driven (if ((2 * x.toNat) % 512).testBit k.val then .high else .low)
      bitIdx := k
      upc := 28 + 3 * k.val
      trace := s.trace ++ [.drive .dq (if ((2 * x.toNat) % 512).testBit k.val then .high else .low)] }

/-- WRITE_CONFIG of a positive value sends `OPERAND[7:0]` as its payload (43_write_ops.md R104, 40_primitives.md R77):
for k = 0 to 7 the micro-operation 27 + 3k drives bit k of the operand on DQ. -/
def Obligations.ConfigPayloadOnTheWire : Prop :=
  ∀ (x : Operand) (s : State) (k : BitIndex), 0 < x.toInt → k.val < 8 →
    s.carryingOut (.writeConfig x) (27 + 3 * k.val) →
    (k ≠ 0 → s.sr = BitVec.ofNat 9 (x.toNat % 256)) →
    exec (.writeConfig x) s = .next { s with
      sr := BitVec.ofNat 9 (x.toNat % 256)
      dqL := .driven (if x.getLsbD k.val then .high else .low)
      bitIdx := k
      upc := 28 + 3 * k.val
      trace := s.trace ++ [.drive .dq (if x.getLsbD k.val then .high else .low)] }

/-! ### Whole operations -/

/-- The six read operations (42_read_ops.md R94 to R100), whole: from any idle engine, 59 steps after the request is
presented the operation is complete. Its trace is exactly BEGIN, the command's eight bits, the nine received bits and
END (57 events, 17 clock pulses); `RESULT` is the rule's function of the nine received bits; every register has the
value stated, and `STATUS`, `FAULT` and the parameters are unchanged. The fields `responder` and `draws` (log 4),
`requests` (log 5) and `completions` (log 6) are the model's. -/
def Obligations.ReadOperationsWhole : Prop :=
  ∀ (s : State) (w : Req) (rest : List Req) (i : Instr) (c : Command) (f : Raw → Result),
    s.presents w rest → decodeWord w = .ok i → readsAs s.cfg i = some (c, f) →
    Sys2Proof.core.run 59 s = .next { s with
      rstL := .driven .low
      clkL := .driven .high
      dqL := .driven (levelOf (c.getLsbD 7))
      dqDir := .output
      session := .closed
      op := i.opcode
      operand := i.operand
      sr := s.sampledFrame
      bitIdx := 8
      upc := 58
      done := true
      result := f s.sampledFrame
      trace := s.trace ++ readEvents c s.samples
      completions := s.completions ++
        [{ result := f s.sampledFrame, status := s.status, done := true, fault := s.fault }]
      requests := rest
      responder := s.responder.drop 9
      draws := s.draws + 9 } ∧
    (readEvents c s.samples).length = 57 ∧
    pulses (readEvents c s.samples) = 17

/-- The two threshold writes (43_write_ops.md R102, R103), whole: from any idle engine with no wait outstanding, 59 steps
after the request is presented (one of them the platform's, log 12) the operation is complete. Its trace is exactly BEGIN, the command's eight bits, the nine bits of
`{OPERAND[7:0], 0}`, one settle wait and END (56 events, 17 clock pulses); `RESULT`, `STATUS`, `FAULT` and `DQ_DIR`
are unchanged. The fields `requests` (log 5) and `completions` (log 6) are the model's. -/
def Obligations.ThresholdWritesWhole : Prop :=
  ∀ (s : State) (w : Req) (rest : List Req) (i : Instr) (c : Command) (x : Operand),
    s.presents w rest → s.waiting = none → decodeWord w = .ok i → writesThreshold s.cfg i = some (c, x) →
    Sys2Proof.core.run 59 s = .next { s with
      rstL := .driven .low
      clkL := .driven .high
      dqL := .driven (levelOf (x.getLsbD 7))
      session := .closed
      op := i.opcode
      operand := x
      sr := x.extractLsb' 0 8 ++ 0#1
      bitIdx := 8
      upc := 57
      done := true
      trace := s.trace ++ thresholdWriteEvents c x s.cfg.writeSettleMs
      completions := s.completions ++ [{ result := s.result, status := s.status, done := true, fault := s.fault }]
      requests := rest } ∧
    (thresholdWriteEvents c x s.cfg.writeSettleMs).length = 56 ∧
    pulses (thresholdWriteEvents c x s.cfg.writeSettleMs) = 17

/-- WRITE_CONFIG (43_write_ops.md R104), whole, from any idle engine with no wait outstanding. Of a positive value: 113
steps (one of them the platform's, log 12), two sessions (110 events, 33 clock pulses), the first sending the write command and `OPERAND[7:0]` and waiting, the second sending the read command and
receiving nine bits; `STATUS` is 0 where the low eight received bits equal the whole operand, else 1. Of a value at or
below 0: two steps, no line event, `STATUS` 2. `RESULT` and `FAULT` are unchanged. The fields `responder` and `draws`
(log 4), `requests` (log 5) and `completions` (log 6) are the model's. -/
def Obligations.WriteConfigWhole : Prop :=
  ∀ (s : State) (w : Req) (rest : List Req) (x : Operand), s.presents w rest → s.waiting = none →
    decodeWord w = .ok (.writeConfig x) →
    (0 < x.toInt →
      Sys2Proof.core.run 113 s = .next { s with
        rstL := .driven .low
        clkL := .driven .high
        dqL := .driven (levelOf (s.cfg.cmdReadConfig.getLsbD 7))
        dqDir := .output
        session := .closed
        op := 0x9#4
        operand := x
        sr := s.sampledFrame
        bitIdx := 8
        upc := 111
        done := true
        status := if ((s.sampledFrame.toNat % 256 : Nat) : Int) = x.toInt then 0#2 else 1#2
        trace := s.trace ++
          (configWriteEvents s.cfg.cmdWriteConfig x s.cfg.writeSettleMs ++
            readEvents s.cfg.cmdReadConfig s.samples)
        completions := s.completions ++
          [{ result := s.result, status := if ((s.sampledFrame.toNat % 256 : Nat) : Int) = x.toInt then 0#2 else 1#2,
             done := true, fault := s.fault }]
        requests := rest
        responder := s.responder.drop 9
        draws := s.draws + 9 } ∧
      (configWriteEvents s.cfg.cmdWriteConfig x s.cfg.writeSettleMs ++
        readEvents s.cfg.cmdReadConfig s.samples).length = 110 ∧
      pulses (configWriteEvents s.cfg.cmdWriteConfig x s.cfg.writeSettleMs ++
        readEvents s.cfg.cmdReadConfig s.samples) = 33) ∧
    (x.toInt ≤ 0 →
      Sys2Proof.core.run 2 s = .next { s with
        op := 0x9#4
        operand := x
        upc := 1
        done := true
        status := 2#2
        completions := s.completions ++ [{ result := s.result, status := 2#2, done := true, fault := s.fault }]
        requests := rest })

/-- START_CONVERT and STOP_CONVERT (44_conversion_ops.md R106 to R108), whole: from any idle engine, 30 steps after the
request is presented the operation is complete. Its trace is exactly BEGIN, the command's eight bits and END (28
events, 8 clock pulses); `RESULT`, `STATUS`, `FAULT` and `DQ_DIR` are unchanged. The fields `requests` (log 5) and
`completions` (log 6) are the model's. -/
def Obligations.ConversionOperationsWhole : Prop :=
  ∀ (s : State) (w : Req) (rest : List Req) (i : Instr) (c : Command),
    s.presents w rest → decodeWord w = .ok i → controlsConversion s.cfg i = some c →
    Sys2Proof.core.run 30 s = .next { s with
      rstL := .driven .low
      clkL := .driven .high
      dqL := .driven (levelOf (c.getLsbD 7))
      session := .closed
      op := i.opcode
      operand := i.operand
      sr := c.setWidth 9
      bitIdx := 7
      upc := 29
      done := true
      trace := s.trace ++ commandEvents c
      completions := s.completions ++ [{ result := s.result, status := s.status, done := true, fault := s.fault }]
      requests := rest } ∧
    (commandEvents c).length = 28 ∧
    pulses (commandEvents c) = 8

/-- 60_exceptions.md R109: every operation under way ends in its `POST`, within 112 steps, with `BUSY = 0`,
`DONE = 1` and `FAULT` as it was. It rests on the model's choice (log 12) that the platform completes every event and
ends every wait, which 70_reset_and_hazards.md R139 calls a fairness assumption. `completions` is the model's (log 6). -/
def Obligations.EveryOperationEnds : Prop :=
  ∀ s : State, s.framed = true → s.busy = true →
    ∃ n t, n ≤ 112 ∧ Sys2Proof.core.run n s = .next t ∧ t.busy = false ∧ t.done = true ∧ t.fault = s.fault ∧
      t.completions.length = s.completions.length + 1

/-! ### Frames and whole-machine rules -/

/-- The frame of every operation's step: the parameters and line binding (10_state.md R20), `FAULT` and, while it is
carried out, the latched operation and the host's requests are unchanged; `UPC` advances but where the engine issues a
wait (log 12); `RESULT` is unchanged but by the six reads
and `STATUS` but by WRITE_CONFIG; the two-way line state is unchanged but by operations that receive. -/
def Obligations.OperationFrame : Prop :=
  ∀ (i : Instr) (s t : State), exec i s = .next t →
    t.cfg = s.cfg ∧ t.fault = s.fault ∧
    (s.busy = true → t.op = s.op ∧ t.operand = s.operand ∧ t.requests = s.requests ∧
      ((t.waiting = s.waiting ∨ t.waiting = none) ∧ t.upc = s.upc + 1 ∨
        s.waiting = none ∧ t = { s with
          waiting := some s.cfg.writeSettleMs
          trace := s.trace ++ [.wait s.cfg.writeSettleMs] })) ∧
    (s.busy = false → t.trace = s.trace ∧ t.sr = s.sr ∧ t.bitIdx = s.bitIdx ∧ t.rstL = s.rstL ∧ t.clkL = s.clkL ∧
      t.dqL = s.dqL ∧ t.session = s.session ∧ t.completions = s.completions ∧ t.waiting = s.waiting) ∧
    (readsAs s.cfg i = none → t.result = s.result) ∧
    ((∀ x, i ≠ .writeConfig x) → t.status = s.status) ∧
    (readsAs s.cfg i = none → (∀ x, i ≠ .writeConfig x) →
      t.dqDir = s.dqDir ∧ t.responder = s.responder ∧ t.draws = s.draws)

/-- 10_state.md R31: only the POST of one of the six reads writes `RESULT`. -/
def Obligations.ResultWrittenOnlyByReads : Prop :=
  ∀ s t : State, step s = .next t → t.result ≠ s.result →
    s.busy = true ∧ t.busy = false ∧ t.done = true ∧ s.upc = 57 ∧
      s.op ∈ [0x0#4, 0x3#4, 0x4#4, 0x5#4, 0x6#4, 0xA#4]

/-- 10_state.md R32: only WRITE_CONFIG's POST writes `STATUS`: 2 for rejected input, else 0 for success or 1 for a
verification mismatch, never 3. -/
def Obligations.StatusWrittenOnlyByWriteConfig : Prop :=
  ∀ s t : State, step s = .next t → t.status ≠ s.status →
    s.busy = true ∧ t.busy = false ∧ t.done = true ∧ s.op = 0x9#4 ∧
      t.status =
        (if s.operand.toInt ≤ 0 then 2#2
         else if ((s.sr.toNat % 256 : Nat) : Int) = s.operand.toInt then 0#2 else 1#2)

/-- 10_state.md R29 and R30, 40_primitives.md R71: the acceptance of a non-reserved request sets `BUSY` and clears
`DONE`, and `BUSY` rises at no other step; `BUSY` falls only at a POST, which sets `DONE`; `DONE` changes at no other
step but the rejection of a reserved OP by an idle engine, which sets it. The list of requests and the rejection as a
next state are the model's (logs 5, 7). -/
def Obligations.BusyAndDoneChange : Prop :=
  ∀ s t : State, step s = .next t →
    (∀ w rest, s.presents w rest → (w.extractLsb' 0 4).toNat < 0xB → t.busy = true ∧ t.done = false) ∧
    (s.busy = false → t.busy = true → t.done = false ∧ ∃ w rest, s.requests = w :: rest ∧
      (w.extractLsb' 0 4).toNat < 0xB) ∧
    (s.busy = true → t.busy = false → t.done = true ∧ ∃ i p, decodeWord (reqWord s.operand s.op) = .ok i ∧
      (program s.cfg i)[s.upc]? = some (.post p)) ∧
    (t.done ≠ s.done → s.busy = t.busy → s.busy = false ∧ t.done = true ∧ ∃ w rest, s.requests = w :: rest ∧ 0xB ≤ (w.extractLsb' 0 4).toNat) ∧
    (∀ w rest, s.presents w rest → 0xB ≤ (w.extractLsb' 0 4).toNat → t.done = true ∧ t.busy = false)

/-- 30_encoding.md R59: the eight operations other than WRITE_TH, WRITE_TL and WRITE_CONFIG ignore the operand. Two
runs that differ only in the latched operand do the same at every step, and differ only in it after. -/
def Obligations.OperandIgnoredByEight : Prop :=
  ∀ (s : State) (x : Operand), s.busy = true → s.op ∉ [0x1#4, 0x2#4, 0x9#4] →
    match step s, step { s with operand := x } with
    | .next t, .next u => u = { t with operand := x }
    | .fault r, .fault q => r = q
    | .refused r, .refused q => r = q
    | _, _ => False

/-! ### Invariants -/

/-- What construction leaves (10_state.md R38, 70_reset_and_hazards.md R125): the values the spec gives, for every line
binding and every parameter. A binding that repeats a channel is refused. -/
def Obligations.ConstructionValues : Prop :=
  (∀ c : Config, c.wellFormed = true → ∃ s, construct c = .next s ∧
    s.cfg = c ∧ s.dqDir = .output ∧ s.rstL = .unknown ∧ s.clkL = .unknown ∧ s.dqL = .unknown ∧
    s.session = .closed ∧ s.upc = 0 ∧ s.busy = false ∧ s.done = false ∧ s.result = 0 ∧ s.status = 0 ∧
    s.fault = false ∧ s.trace = [.dir .clk .output, .dir .rst .output, .dir .dq .output]) ∧
  (∀ c : Config, c.dqId = c.clkId ∨ c.dqId = c.rstId ∨ c.clkId = c.rstId →
    construct c = .refused .channelsNotDistinct)

/-- 70_reset_and_hazards.md R128: a new construction while `BUSY = 1` is refused; while `BUSY = 0` it resets every
register, `FAULT` too, on the same channels: the state is construction's, but for the host's requests, the responder's
levels and the count of samples, which are as they were. The model's: that these three stay, that the trace starts anew
with construction's events and the completion records are emptied, and that the parameters are kept (log 13); that `OP`,
`OPERAND`, `SR` and `BITIDX` are 0 (log 1); and that no wait is outstanding (log 12). -/
def Obligations.ReconstructionOnlyWhileIdle : Prop :=
  (∀ s : State, s.busy = true → reconstruct s = .refused .constructWhileBusy) ∧
  (∀ s : State, s.busy = false → ∃ t, reconstruct s = .next t ∧ t.fault = false ∧
    t.requests = s.requests ∧ t.responder = s.responder ∧ t.draws = s.draws ∧
    { t with requests := [], responder := [], draws := 0 } = State.constructed s.cfg)

/-- The state after reset is what construction with the default parameters leaves, and meets the four invariants. The
model's: the default channel identifiers (log 2), the zeros of `OP`, `OPERAND`, `SR` and `BITIDX` (log 1), and its own
fields at reset (logs 4 to 6, 12). -/
def Obligations.ResetMeetsInvariants : Prop :=
  construct Config.default = .next State.reset ∧
  State.reset.framed = true ∧ State.reset.traceLegal = true ∧ State.reset.linesFromTrace = true ∧
    State.reset.status ≠ 3#2

/-- Every step keeps the framing invariant: the latched word spells an operation, `UPC` is inside its micro-program, a
wait is outstanding only at a `WAIT` (log 12), and RST, CLK, `SESSION` and `DQ_DIR` are what the carried-out part of it leaves (10_state.md R28, R37). -/
def Obligations.StepKeepsFraming : Prop :=
  ∀ s t : State, s.framed = true → step s = .next t → t.framed = true

/-- From a framed state the engine never stops: no step is a fault or a refusal. The model's: an idle engine without a
request takes a step that changes nothing (log 5), a reserved OP gives a next state (log 7), and the stops that this
rules out are those of log 8. -/
def Obligations.FramedStateSteps : Prop :=
  ∀ s : State, s.framed = true → ∃ t, step s = .next t

/-- 10_state.md R37 (I1) to (I3), R23 and R28 in every framed state. Where a wait is outstanding (log 12), the engine is
busy, inside a session and at a `WAIT`. -/
def Obligations.FramedStateFacts : Prop :=
  ∀ s : State, s.framed = true →
    (s.dqDir = .input → s.busy = true ∧ s.session = .opened ∧
      ∃ i j k, decodeWord (reqWord s.operand s.op) = .ok i ∧ j < s.upc ∧ s.upc ≤ k ∧
        (program s.cfg i)[j]? = some .rxBegin ∧ (program s.cfg i)[k]? = some .rxEnd ∧ k = j + 28) ∧
    (s.session = .opened → s.busy = true) ∧
    (s.busy = false → s.session = .closed ∧ s.dqDir = .output ∧
      ((s.rstL = .unknown ∧ s.clkL = .unknown) ∨ (s.rstL = .driven .low ∧ s.clkL = .driven .high))) ∧
    (s.session = .opened ↔ s.rstL = .driven .high) ∧
    (s.busy = true → s.upc < 111) ∧
    (s.waiting ≠ none → s.busy = true ∧ s.session = .opened ∧
      ∃ i, decodeWord (reqWord s.operand s.op) = .ok i ∧ (program s.cfg i)[s.upc]? = some .wait)

/-- Every step of a framed state keeps the trace to the line protocol: DQ is driven only as an output, in a session and
with CLK high (10_state.md R37 (I4), 70_reset_and_hazards.md R142); RST rises only with CLK high (R129); DQ changes
direction only with CLK high (R132); DQ is sampled only after a falling edge (R136); sessions open and close in
alternation (40_primitives.md R75). -/
def Obligations.StepKeepsLineProtocol : Prop :=
  ∀ s t : State, s.framed = true → s.traceLegal = true → step s = .next t →
    t.framed = true ∧ t.traceLegal = true

/-- Every step keeps the line registers what the trace says was last done to each line, and `SESSION` OPEN exactly
when RST was last driven HIGH (00_scope.md R10, 10_state.md R21 to R23). -/
def Obligations.StepKeepsLinesFromTrace : Prop :=
  ∀ s t : State, s.linesFromTrace = true → step s = .next t → t.linesFromTrace = true

/-- `STATUS` code 3 is never produced (10_state.md R32, 60_exceptions.md R110). A step adds at most one completion
record, which shows what the host-visible registers hold after it (00_scope.md R10). -/
def Obligations.CompletionsReportTheRegisters : Prop :=
  ∀ s t : State, s.status ≠ 3#2 → step s = .next t →
    t.status ≠ 3#2 ∧
    (t.completions = s.completions ∨
      (t.completions = s.completions ++ [{ result := t.result, status := t.status, done := t.done, fault := t.fault }] ∧
        t.busy = false ∧ t.done = true))

/-! ### Blocks -/

/-- 40_primitives.md R73 and R74: BEGIN and END, what they issue and change. A stand-alone END with no session open is
refused (70_reset_and_hazards.md R133). That the primitives on their own are refused during an operation is the model's
(log 14). -/
def Obligations.SessionFraming : Prop :=
  (∀ s : State, runBlock beginBlock s = { s with
    rstL := .driven .high
    clkL := .driven .high
    session := .opened
    trace := s.trace ++ [.drive .rst .low, .drive .clk .high, .drive .rst .high] }) ∧
  (∀ s : State, runBlock endBlock s = { s with
    rstL := .driven .low
    session := .closed
    trace := s.trace ++ [.drive .rst .low] }) ∧
  (∀ s : State, s.session = .closed → endSession s = .refused .endWithoutSession) ∧
  (∀ s : State, s.session = .opened → s.busy = false → endSession s = .next (runBlock endBlock s)) ∧
  ∀ s : State, s.busy = true → beginSession s = .refused .primitiveWhileBusy ∧
    (s.session = .opened → endSession s = .refused .primitiveWhileBusy)

/-- 40_primitives.md R76 and R78: TX8 of any 8-bit value and TX9 of any 9-bit value, least significant bit first, each
bit driven on DQ and then one clock pulse; what they change. -/
def Obligations.TransmissionFrames : Prop :=
  (∀ (s : State) (c : Command), runBlock (tx8 c) s = { s with
    sr := c.setWidth 9
    dqL := .driven (levelOf (c.getLsbD 7))
    clkL := .driven .high
    bitIdx := 7
    trace := s.trace ++ sentEvents (lsbFirst 8 c) }) ∧
  (∀ (s : State) (v : Raw), runBlock (tx9 v) s = { s with
    sr := v
    dqL := .driven (levelOf (v.getLsbD 8))
    clkL := .driven .high
    bitIdx := 8
    trace := s.trace ++ sentEvents (lsbFirst 9 v) })

/-- 40_primitives.md R80 to R82: RX9 takes nine samples, each inside its clock pulse, between the two direction changes;
after it bit i of `SR` is the i-th sample, and `DQ_L` is as it was. How the samples are held, `responder`, `draws` and
`sampleLevel`, is the model's (log 4). -/
def Obligations.ReceptionFrame : Prop :=
  ∀ s : State, ∃ r : Raw, (∀ i, i < 9 → r.getLsbD i = bitOf (s.sampleLevel i)) ∧
    runBlock rx9 s = { s with
      dqDir := .output
      clkL := .driven .high
      sr := r
      bitIdx := 8
      responder := s.responder.drop 9
      draws := s.draws + 9
      trace := s.trace ++ receivedEvents s.samples }

/-- 40_primitives.md R82: a realisation that shifts `SR` right by one and inserts each sample at bit 8 holds the same
value after nine samples as the one that ORs sample i into bit i. -/
def Obligations.ShiftRealisationAgrees : Prop :=
  ∀ (b : BitIndex → Bool) (r : Raw),
    bitIndexes.foldl (fun (v : Raw) i => (v >>> 1) ||| (if b i then 0x100#9 else 0#9)) r =
      bitIndexes.foldl (fun v i => orBit v i (b i)) 0

/-- 70_reset_and_hazards.md R138: the number of micro-operations of every operation, and of its line events by kind, in
its micro-program: entries, Drive(RST), Drive(CLK), Drive(DQ), SetDir, Sample, Wait. -/
def Obligations.EventCounts : Prop :=
  ∀ (c : Config) (i : Instr),
    eventCounts (program c i) =
      if (readsAs c i).isSome then [58, 3, 35, 8, 2, 9, 0]
      else if (writesThreshold c i).isSome then [57, 3, 35, 17, 0, 0, 1]
      else if (controlsConversion c i).isSome then [29, 3, 17, 8, 0, 0, 0]
      else if opensSession i then [111, 6, 68, 24, 2, 9, 1]
      else [1, 0, 0, 0, 0, 0, 0]

/-! ### The codec -/

/-- 41_codec.md R86: `decode_temp` is the 9-bit two's complement value halved toward zero; it lies in [-128, 127]; and
it differs from the arithmetic right shift exactly for odd values with bit 8 set, where the shift gives one less. -/
def Obligations.DecodeTempIsHalvedTwosComplement : Prop :=
  ∀ v : Raw,
    decodeTemp v = v.toInt.tdiv 2 ∧ -128 ≤ decodeTemp v ∧ decodeTemp v ≤ 127 ∧
    (decodeTemp v ≠ v.toInt >>> 1 ↔ v.getLsbD 0 = true ∧ v.getLsbD 8 = true) ∧
    (v.getLsbD 0 = true → v.getLsbD 8 = true → v.toInt >>> 1 = decodeTemp v - 1)

/-- 41_codec.md R87: the edge value 0x100 decodes to -128. -/
def Obligations.NegativeZeroDecodes : Prop :=
  decodeTemp 0x100#9 = -128

/-- 41_codec.md R88: an odd value with bit 8 clear decodes to (v - 1) / 2; an odd value with bit 8 set is rounded toward
zero, to half of the even value above it. -/
def Obligations.OddValuesTruncateTowardZero : Prop :=
  (∀ v : Raw, v.getLsbD 8 = false → v.getLsbD 0 = true → 2 * decodeTemp v = (v.toNat : Int) - 1) ∧
  (∀ v : Raw, v.getLsbD 8 = true → v.getLsbD 0 = true → 2 * decodeTemp v = (v.toNat : Int) - 512 + 1) ∧
  decodeTemp 0x005#9 = 2 ∧ decodeTemp 0x101#9 = -127 ∧ decodeTemp 0x1FD#9 = -1 ∧ decodeTemp 0x1FF#9 = 0

/-- 41_codec.md R90: `encode_th` is `(2 * sint_16(x)) mod 2^9`, which is `{x[7:0], 0}`; bit 0 of every frame is 0. -/
def Obligations.EncodeThreshold : Prop :=
  ∀ x : Operand,
    ((encodeTh x).toNat : Int) = (2 * x.toInt) % 512 ∧ encodeTh x = x.extractLsb' 0 8 ++ 0#1 ∧
      (encodeTh x).getLsbD 0 = false

/-- 41_codec.md R91: both round trips, with the ranges in which they are exact. -/
def Obligations.ThresholdRoundTrips : Prop :=
  ∀ x : Operand,
    decodeTh (encodeTh x) = (x.extractLsb' 0 8).toNat ∧
    (((decodeTh (encodeTh x) : Nat) : Int) = x.toInt ↔ 0 ≤ x.toInt ∧ x.toInt ≤ 255) ∧
    decodeTemp (encodeTh x) = (x.extractLsb' 0 8).toInt ∧
    (decodeTemp (encodeTh x) = x.toInt ↔ -128 ≤ x.toInt ∧ x.toInt ≤ 127)
end

