-- ==== Sys2Proof/Laws/Decode.lean ====
section
/-! SUPPORT. The fields of a request word, and what the decoder answers for a word made of them. -/

namespace Sys2Proof.Laws

@[simp] theorem reqOp_reqWord (x : Operand) (o : OpCode) : reqOp (reqWord x o) = o := by
  simp only [reqOp, reqWord]
  exact BitVec.extractLsb'_append_eq_right

@[simp] theorem reqOperand_reqWord (x : Operand) (o : OpCode) : reqOperand (reqWord x o) = x := by
  simp only [reqOperand, reqWord]
  exact BitVec.extractLsb'_append_eq_left

/-- A request word is its two fields. -/
theorem reqWord_fields (w : Req) : reqWord (reqOperand w) (reqOp w) = w := by
  simp only [reqOp, reqOperand, reqWord]
  ext i hi
  simp only [BitVec.getElem_append, BitVec.getElem_extractLsb']
  split
  · simp [BitVec.getLsbD_eq_getElem hi]
  · rename_i h
    have h4 : 4 + (i - 4) = i := by omega
    simp [h4, BitVec.getLsbD_eq_getElem hi]

theorem decodeWord_reqWord (x : Operand) (o : OpCode) : decodeWord (reqWord x o) = decodeFields o x := by
  simp [decodeWord]

@[simp] theorem decodeFields_opcode (i : Instr) : decodeFields i.opcode i.operand = .ok i := by
  cases i <;> rfl

/-- What an `OP` code and an operand spell is an operation with that code and operand. -/
theorem decodeFields_ok {o : OpCode} {x : Operand} {i : Instr} (h : decodeFields o x = .ok i) :
    i.opcode = o ∧ i.operand = x := by
  unfold decodeFields at h
  split at h <;> simp only [Except.ok.injEq, reduceCtorEq] at h <;> subst h <;>
    exact ⟨BitVec.eq_of_toNat_eq (by simp only [Instr.opcode]; simp [*]), rfl⟩

/-- A code that spells no operation is the one the error names, and is 0xB or above (30_encoding.md R58). -/
theorem decodeFields_error {o : OpCode} {x : Operand} {e : DecodeError} (h : decodeFields o x = .error e) :
    e = .reservedOp o ∧ 0xB ≤ o.toNat := by
  unfold decodeFields at h
  split at h <;> simp only [reduceCtorEq, Except.error.injEq] at h
  refine ⟨h.symm, ?_⟩
  by_contra hlt
  have hlt : o.toNat < 11 := by omega
  interval_cases o.toNat <;> simp_all

end Sys2Proof.Laws
end

