-- ==== Sys2Proof/Laws/State.lean ====
section
/-! SUPPORT. One lemma per field per update of the state, so that no later proof unfolds an update. -/

namespace Sys2Proof.Laws

open Sys2Proof.Machine

/-! ### drv -/

@[simp] theorem drv_cfg (l : Line) (v : Level) (s : State) :
    (drv l v s).cfg = s.cfg := rfl
@[simp] theorem drv_rstL (l : Line) (v : Level) (s : State) :
    (drv l v s).rstL = if l = .rst then .driven v else s.rstL := rfl
@[simp] theorem drv_clkL (l : Line) (v : Level) (s : State) :
    (drv l v s).clkL = if l = .clk then .driven v else s.clkL := rfl
@[simp] theorem drv_dqL (l : Line) (v : Level) (s : State) :
    (drv l v s).dqL = if l = .dq then .driven v else s.dqL := rfl
@[simp] theorem drv_dqDir (l : Line) (v : Level) (s : State) :
    (drv l v s).dqDir = s.dqDir := rfl
@[simp] theorem drv_session (l : Line) (v : Level) (s : State) :
    (drv l v s).session = if l = .rst then (if v = .high then .opened else .closed) else s.session := rfl
@[simp] theorem drv_op (l : Line) (v : Level) (s : State) :
    (drv l v s).op = s.op := rfl
@[simp] theorem drv_operand (l : Line) (v : Level) (s : State) :
    (drv l v s).operand = s.operand := rfl
@[simp] theorem drv_sr (l : Line) (v : Level) (s : State) :
    (drv l v s).sr = s.sr := rfl
@[simp] theorem drv_bitIdx (l : Line) (v : Level) (s : State) :
    (drv l v s).bitIdx = s.bitIdx := rfl
@[simp] theorem drv_upc (l : Line) (v : Level) (s : State) :
    (drv l v s).upc = s.upc := rfl
@[simp] theorem drv_busy (l : Line) (v : Level) (s : State) :
    (drv l v s).busy = s.busy := rfl
@[simp] theorem drv_done (l : Line) (v : Level) (s : State) :
    (drv l v s).done = s.done := rfl
@[simp] theorem drv_result (l : Line) (v : Level) (s : State) :
    (drv l v s).result = s.result := rfl
@[simp] theorem drv_status (l : Line) (v : Level) (s : State) :
    (drv l v s).status = s.status := rfl
@[simp] theorem drv_fault (l : Line) (v : Level) (s : State) :
    (drv l v s).fault = s.fault := rfl
@[simp] theorem drv_trace (l : Line) (v : Level) (s : State) :
    (drv l v s).trace = s.trace ++ [.drive l v] := rfl
@[simp] theorem drv_completions (l : Line) (v : Level) (s : State) :
    (drv l v s).completions = s.completions := rfl
@[simp] theorem drv_requests (l : Line) (v : Level) (s : State) :
    (drv l v s).requests = s.requests := rfl
@[simp] theorem drv_responder (l : Line) (v : Level) (s : State) :
    (drv l v s).responder = s.responder := rfl
@[simp] theorem drv_draws (l : Line) (v : Level) (s : State) :
    (drv l v s).draws = s.draws := rfl
@[simp] theorem drv_waiting (l : Line) (v : Level) (s : State) :
    (drv l v s).waiting = s.waiting := rfl

/-! ### txBit -/

@[simp] theorem txBit_cfg (f : Raw) (i : BitIndex) (s : State) :
    (txBit f i s).cfg = s.cfg := rfl
@[simp] theorem txBit_rstL (f : Raw) (i : BitIndex) (s : State) :
    (txBit f i s).rstL = s.rstL := rfl
@[simp] theorem txBit_clkL (f : Raw) (i : BitIndex) (s : State) :
    (txBit f i s).clkL = s.clkL := rfl
@[simp] theorem txBit_dqL (f : Raw) (i : BitIndex) (s : State) :
    (txBit f i s).dqL = .driven (levelOf ((txLoad f i s.sr).getLsbD i.val)) := rfl
@[simp] theorem txBit_dqDir (f : Raw) (i : BitIndex) (s : State) :
    (txBit f i s).dqDir = s.dqDir := rfl
@[simp] theorem txBit_session (f : Raw) (i : BitIndex) (s : State) :
    (txBit f i s).session = s.session := rfl
@[simp] theorem txBit_op (f : Raw) (i : BitIndex) (s : State) :
    (txBit f i s).op = s.op := rfl
@[simp] theorem txBit_operand (f : Raw) (i : BitIndex) (s : State) :
    (txBit f i s).operand = s.operand := rfl
@[simp] theorem txBit_sr (f : Raw) (i : BitIndex) (s : State) :
    (txBit f i s).sr = txLoad f i s.sr := rfl
@[simp] theorem txBit_bitIdx (f : Raw) (i : BitIndex) (s : State) :
    (txBit f i s).bitIdx = i := rfl
@[simp] theorem txBit_upc (f : Raw) (i : BitIndex) (s : State) :
    (txBit f i s).upc = s.upc := rfl
@[simp] theorem txBit_busy (f : Raw) (i : BitIndex) (s : State) :
    (txBit f i s).busy = s.busy := rfl
@[simp] theorem txBit_done (f : Raw) (i : BitIndex) (s : State) :
    (txBit f i s).done = s.done := rfl
@[simp] theorem txBit_result (f : Raw) (i : BitIndex) (s : State) :
    (txBit f i s).result = s.result := rfl
@[simp] theorem txBit_status (f : Raw) (i : BitIndex) (s : State) :
    (txBit f i s).status = s.status := rfl
@[simp] theorem txBit_fault (f : Raw) (i : BitIndex) (s : State) :
    (txBit f i s).fault = s.fault := rfl
@[simp] theorem txBit_trace (f : Raw) (i : BitIndex) (s : State) :
    (txBit f i s).trace = s.trace ++ [.drive .dq (levelOf ((txLoad f i s.sr).getLsbD i.val))] := rfl
@[simp] theorem txBit_completions (f : Raw) (i : BitIndex) (s : State) :
    (txBit f i s).completions = s.completions := rfl
@[simp] theorem txBit_requests (f : Raw) (i : BitIndex) (s : State) :
    (txBit f i s).requests = s.requests := rfl
@[simp] theorem txBit_responder (f : Raw) (i : BitIndex) (s : State) :
    (txBit f i s).responder = s.responder := rfl
@[simp] theorem txBit_draws (f : Raw) (i : BitIndex) (s : State) :
    (txBit f i s).draws = s.draws := rfl
@[simp] theorem txBit_waiting (f : Raw) (i : BitIndex) (s : State) :
    (txBit f i s).waiting = s.waiting := rfl

/-! ### rxBegin -/

@[simp] theorem rxBegin_cfg (s : State) :
    (rxBegin s).cfg = s.cfg := rfl
@[simp] theorem rxBegin_rstL (s : State) :
    (rxBegin s).rstL = s.rstL := rfl
@[simp] theorem rxBegin_clkL (s : State) :
    (rxBegin s).clkL = s.clkL := rfl
@[simp] theorem rxBegin_dqL (s : State) :
    (rxBegin s).dqL = s.dqL := rfl
@[simp] theorem rxBegin_dqDir (s : State) :
    (rxBegin s).dqDir = .input := rfl
@[simp] theorem rxBegin_session (s : State) :
    (rxBegin s).session = s.session := rfl
@[simp] theorem rxBegin_op (s : State) :
    (rxBegin s).op = s.op := rfl
@[simp] theorem rxBegin_operand (s : State) :
    (rxBegin s).operand = s.operand := rfl
@[simp] theorem rxBegin_sr (s : State) :
    (rxBegin s).sr = 0 := rfl
@[simp] theorem rxBegin_bitIdx (s : State) :
    (rxBegin s).bitIdx = s.bitIdx := rfl
@[simp] theorem rxBegin_upc (s : State) :
    (rxBegin s).upc = s.upc := rfl
@[simp] theorem rxBegin_busy (s : State) :
    (rxBegin s).busy = s.busy := rfl
@[simp] theorem rxBegin_done (s : State) :
    (rxBegin s).done = s.done := rfl
@[simp] theorem rxBegin_result (s : State) :
    (rxBegin s).result = s.result := rfl
@[simp] theorem rxBegin_status (s : State) :
    (rxBegin s).status = s.status := rfl
@[simp] theorem rxBegin_fault (s : State) :
    (rxBegin s).fault = s.fault := rfl
@[simp] theorem rxBegin_trace (s : State) :
    (rxBegin s).trace = s.trace ++ [.dir .dq .input] := rfl
@[simp] theorem rxBegin_completions (s : State) :
    (rxBegin s).completions = s.completions := rfl
@[simp] theorem rxBegin_requests (s : State) :
    (rxBegin s).requests = s.requests := rfl
@[simp] theorem rxBegin_responder (s : State) :
    (rxBegin s).responder = s.responder := rfl
@[simp] theorem rxBegin_draws (s : State) :
    (rxBegin s).draws = s.draws := rfl
@[simp] theorem rxBegin_waiting (s : State) :
    (rxBegin s).waiting = s.waiting := rfl

/-! ### rxBit -/

@[simp] theorem rxBit_cfg (i : BitIndex) (s : State) :
    (rxBit i s).cfg = s.cfg := rfl
@[simp] theorem rxBit_rstL (i : BitIndex) (s : State) :
    (rxBit i s).rstL = s.rstL := rfl
@[simp] theorem rxBit_clkL (i : BitIndex) (s : State) :
    (rxBit i s).clkL = s.clkL := rfl
@[simp] theorem rxBit_dqL (i : BitIndex) (s : State) :
    (rxBit i s).dqL = s.dqL := rfl
@[simp] theorem rxBit_dqDir (i : BitIndex) (s : State) :
    (rxBit i s).dqDir = s.dqDir := rfl
@[simp] theorem rxBit_session (i : BitIndex) (s : State) :
    (rxBit i s).session = s.session := rfl
@[simp] theorem rxBit_op (i : BitIndex) (s : State) :
    (rxBit i s).op = s.op := rfl
@[simp] theorem rxBit_operand (i : BitIndex) (s : State) :
    (rxBit i s).operand = s.operand := rfl
@[simp] theorem rxBit_sr (i : BitIndex) (s : State) :
    (rxBit i s).sr = orBit s.sr i (bitOf (s.sampleLevel 0)) := rfl
@[simp] theorem rxBit_bitIdx (i : BitIndex) (s : State) :
    (rxBit i s).bitIdx = i := rfl
@[simp] theorem rxBit_upc (i : BitIndex) (s : State) :
    (rxBit i s).upc = s.upc := rfl
@[simp] theorem rxBit_busy (i : BitIndex) (s : State) :
    (rxBit i s).busy = s.busy := rfl
@[simp] theorem rxBit_done (i : BitIndex) (s : State) :
    (rxBit i s).done = s.done := rfl
@[simp] theorem rxBit_result (i : BitIndex) (s : State) :
    (rxBit i s).result = s.result := rfl
@[simp] theorem rxBit_status (i : BitIndex) (s : State) :
    (rxBit i s).status = s.status := rfl
@[simp] theorem rxBit_fault (i : BitIndex) (s : State) :
    (rxBit i s).fault = s.fault := rfl
@[simp] theorem rxBit_trace (i : BitIndex) (s : State) :
    (rxBit i s).trace = s.trace ++ [.sample (bitOf (s.sampleLevel 0))] := rfl
@[simp] theorem rxBit_completions (i : BitIndex) (s : State) :
    (rxBit i s).completions = s.completions := rfl
@[simp] theorem rxBit_requests (i : BitIndex) (s : State) :
    (rxBit i s).requests = s.requests := rfl
@[simp] theorem rxBit_responder (i : BitIndex) (s : State) :
    (rxBit i s).responder = s.responder.tail := rfl
@[simp] theorem rxBit_draws (i : BitIndex) (s : State) :
    (rxBit i s).draws = s.draws + 1 := rfl
@[simp] theorem rxBit_waiting (i : BitIndex) (s : State) :
    (rxBit i s).waiting = s.waiting := rfl

/-! ### rxEnd -/

@[simp] theorem rxEnd_cfg (s : State) :
    (rxEnd s).cfg = s.cfg := rfl
@[simp] theorem rxEnd_rstL (s : State) :
    (rxEnd s).rstL = s.rstL := rfl
@[simp] theorem rxEnd_clkL (s : State) :
    (rxEnd s).clkL = s.clkL := rfl
@[simp] theorem rxEnd_dqL (s : State) :
    (rxEnd s).dqL = s.dqL := rfl
@[simp] theorem rxEnd_dqDir (s : State) :
    (rxEnd s).dqDir = .output := rfl
@[simp] theorem rxEnd_session (s : State) :
    (rxEnd s).session = s.session := rfl
@[simp] theorem rxEnd_op (s : State) :
    (rxEnd s).op = s.op := rfl
@[simp] theorem rxEnd_operand (s : State) :
    (rxEnd s).operand = s.operand := rfl
@[simp] theorem rxEnd_sr (s : State) :
    (rxEnd s).sr = s.sr := rfl
@[simp] theorem rxEnd_bitIdx (s : State) :
    (rxEnd s).bitIdx = s.bitIdx := rfl
@[simp] theorem rxEnd_upc (s : State) :
    (rxEnd s).upc = s.upc := rfl
@[simp] theorem rxEnd_busy (s : State) :
    (rxEnd s).busy = s.busy := rfl
@[simp] theorem rxEnd_done (s : State) :
    (rxEnd s).done = s.done := rfl
@[simp] theorem rxEnd_result (s : State) :
    (rxEnd s).result = s.result := rfl
@[simp] theorem rxEnd_status (s : State) :
    (rxEnd s).status = s.status := rfl
@[simp] theorem rxEnd_fault (s : State) :
    (rxEnd s).fault = s.fault := rfl
@[simp] theorem rxEnd_trace (s : State) :
    (rxEnd s).trace = s.trace ++ [.dir .dq .output] := rfl
@[simp] theorem rxEnd_completions (s : State) :
    (rxEnd s).completions = s.completions := rfl
@[simp] theorem rxEnd_requests (s : State) :
    (rxEnd s).requests = s.requests := rfl
@[simp] theorem rxEnd_responder (s : State) :
    (rxEnd s).responder = s.responder := rfl
@[simp] theorem rxEnd_draws (s : State) :
    (rxEnd s).draws = s.draws := rfl
@[simp] theorem rxEnd_waiting (s : State) :
    (rxEnd s).waiting = s.waiting := rfl

/-! ### settleWait -/

@[simp] theorem settleWait_cfg (s : State) :
    (settleWait s).cfg = s.cfg := rfl
@[simp] theorem settleWait_rstL (s : State) :
    (settleWait s).rstL = s.rstL := rfl
@[simp] theorem settleWait_clkL (s : State) :
    (settleWait s).clkL = s.clkL := rfl
@[simp] theorem settleWait_dqL (s : State) :
    (settleWait s).dqL = s.dqL := rfl
@[simp] theorem settleWait_dqDir (s : State) :
    (settleWait s).dqDir = s.dqDir := rfl
@[simp] theorem settleWait_session (s : State) :
    (settleWait s).session = s.session := rfl
@[simp] theorem settleWait_op (s : State) :
    (settleWait s).op = s.op := rfl
@[simp] theorem settleWait_operand (s : State) :
    (settleWait s).operand = s.operand := rfl
@[simp] theorem settleWait_sr (s : State) :
    (settleWait s).sr = s.sr := rfl
@[simp] theorem settleWait_bitIdx (s : State) :
    (settleWait s).bitIdx = s.bitIdx := rfl
@[simp] theorem settleWait_upc (s : State) :
    (settleWait s).upc = s.upc := rfl
@[simp] theorem settleWait_busy (s : State) :
    (settleWait s).busy = s.busy := rfl
@[simp] theorem settleWait_done (s : State) :
    (settleWait s).done = s.done := rfl
@[simp] theorem settleWait_result (s : State) :
    (settleWait s).result = s.result := rfl
@[simp] theorem settleWait_status (s : State) :
    (settleWait s).status = s.status := rfl
@[simp] theorem settleWait_fault (s : State) :
    (settleWait s).fault = s.fault := rfl
@[simp] theorem settleWait_trace (s : State) :
    (settleWait s).trace = s.trace ++ [.wait s.cfg.writeSettleMs] := rfl
@[simp] theorem settleWait_completions (s : State) :
    (settleWait s).completions = s.completions := rfl
@[simp] theorem settleWait_requests (s : State) :
    (settleWait s).requests = s.requests := rfl
@[simp] theorem settleWait_responder (s : State) :
    (settleWait s).responder = s.responder := rfl
@[simp] theorem settleWait_draws (s : State) :
    (settleWait s).draws = s.draws := rfl
@[simp] theorem settleWait_waiting (s : State) :
    (settleWait s).waiting = none := rfl

/-! ### issueWait -/

@[simp] theorem issueWait_cfg (s : State) :
    (issueWait s).cfg = s.cfg := rfl
@[simp] theorem issueWait_rstL (s : State) :
    (issueWait s).rstL = s.rstL := rfl
@[simp] theorem issueWait_clkL (s : State) :
    (issueWait s).clkL = s.clkL := rfl
@[simp] theorem issueWait_dqL (s : State) :
    (issueWait s).dqL = s.dqL := rfl
@[simp] theorem issueWait_dqDir (s : State) :
    (issueWait s).dqDir = s.dqDir := rfl
@[simp] theorem issueWait_session (s : State) :
    (issueWait s).session = s.session := rfl
@[simp] theorem issueWait_op (s : State) :
    (issueWait s).op = s.op := rfl
@[simp] theorem issueWait_operand (s : State) :
    (issueWait s).operand = s.operand := rfl
@[simp] theorem issueWait_sr (s : State) :
    (issueWait s).sr = s.sr := rfl
@[simp] theorem issueWait_bitIdx (s : State) :
    (issueWait s).bitIdx = s.bitIdx := rfl
@[simp] theorem issueWait_upc (s : State) :
    (issueWait s).upc = s.upc := rfl
@[simp] theorem issueWait_busy (s : State) :
    (issueWait s).busy = s.busy := rfl
@[simp] theorem issueWait_done (s : State) :
    (issueWait s).done = s.done := rfl
@[simp] theorem issueWait_result (s : State) :
    (issueWait s).result = s.result := rfl
@[simp] theorem issueWait_status (s : State) :
    (issueWait s).status = s.status := rfl
@[simp] theorem issueWait_fault (s : State) :
    (issueWait s).fault = s.fault := rfl
@[simp] theorem issueWait_trace (s : State) :
    (issueWait s).trace = s.trace ++ [.wait s.cfg.writeSettleMs] := rfl
@[simp] theorem issueWait_completions (s : State) :
    (issueWait s).completions = s.completions := rfl
@[simp] theorem issueWait_requests (s : State) :
    (issueWait s).requests = s.requests := rfl
@[simp] theorem issueWait_responder (s : State) :
    (issueWait s).responder = s.responder := rfl
@[simp] theorem issueWait_draws (s : State) :
    (issueWait s).draws = s.draws := rfl
@[simp] theorem issueWait_waiting (s : State) :
    (issueWait s).waiting = some s.cfg.writeSettleMs := rfl

/-! ### platformEndsWait -/

@[simp] theorem platformEndsWait_cfg (s : State) :
    (platformEndsWait s).cfg = s.cfg := rfl
@[simp] theorem platformEndsWait_rstL (s : State) :
    (platformEndsWait s).rstL = s.rstL := rfl
@[simp] theorem platformEndsWait_clkL (s : State) :
    (platformEndsWait s).clkL = s.clkL := rfl
@[simp] theorem platformEndsWait_dqL (s : State) :
    (platformEndsWait s).dqL = s.dqL := rfl
@[simp] theorem platformEndsWait_dqDir (s : State) :
    (platformEndsWait s).dqDir = s.dqDir := rfl
@[simp] theorem platformEndsWait_session (s : State) :
    (platformEndsWait s).session = s.session := rfl
@[simp] theorem platformEndsWait_op (s : State) :
    (platformEndsWait s).op = s.op := rfl
@[simp] theorem platformEndsWait_operand (s : State) :
    (platformEndsWait s).operand = s.operand := rfl
@[simp] theorem platformEndsWait_sr (s : State) :
    (platformEndsWait s).sr = s.sr := rfl
@[simp] theorem platformEndsWait_bitIdx (s : State) :
    (platformEndsWait s).bitIdx = s.bitIdx := rfl
@[simp] theorem platformEndsWait_upc (s : State) :
    (platformEndsWait s).upc = s.upc := rfl
@[simp] theorem platformEndsWait_busy (s : State) :
    (platformEndsWait s).busy = s.busy := rfl
@[simp] theorem platformEndsWait_done (s : State) :
    (platformEndsWait s).done = s.done := rfl
@[simp] theorem platformEndsWait_result (s : State) :
    (platformEndsWait s).result = s.result := rfl
@[simp] theorem platformEndsWait_status (s : State) :
    (platformEndsWait s).status = s.status := rfl
@[simp] theorem platformEndsWait_fault (s : State) :
    (platformEndsWait s).fault = s.fault := rfl
@[simp] theorem platformEndsWait_trace (s : State) :
    (platformEndsWait s).trace = s.trace := rfl
@[simp] theorem platformEndsWait_completions (s : State) :
    (platformEndsWait s).completions = s.completions := rfl
@[simp] theorem platformEndsWait_requests (s : State) :
    (platformEndsWait s).requests = s.requests := rfl
@[simp] theorem platformEndsWait_responder (s : State) :
    (platformEndsWait s).responder = s.responder := rfl
@[simp] theorem platformEndsWait_draws (s : State) :
    (platformEndsWait s).draws = s.draws := rfl
@[simp] theorem platformEndsWait_waiting (s : State) :
    (platformEndsWait s).waiting = none := rfl

/-! ### responderStep -/

@[simp] theorem responderStep_cfg (s : State) :
    (responderStep s).cfg = s.cfg := rfl
@[simp] theorem responderStep_rstL (s : State) :
    (responderStep s).rstL = s.rstL := rfl
@[simp] theorem responderStep_clkL (s : State) :
    (responderStep s).clkL = s.clkL := rfl
@[simp] theorem responderStep_dqL (s : State) :
    (responderStep s).dqL = s.dqL := rfl
@[simp] theorem responderStep_dqDir (s : State) :
    (responderStep s).dqDir = s.dqDir := rfl
@[simp] theorem responderStep_session (s : State) :
    (responderStep s).session = s.session := rfl
@[simp] theorem responderStep_op (s : State) :
    (responderStep s).op = s.op := rfl
@[simp] theorem responderStep_operand (s : State) :
    (responderStep s).operand = s.operand := rfl
@[simp] theorem responderStep_sr (s : State) :
    (responderStep s).sr = s.sr := rfl
@[simp] theorem responderStep_bitIdx (s : State) :
    (responderStep s).bitIdx = s.bitIdx := rfl
@[simp] theorem responderStep_upc (s : State) :
    (responderStep s).upc = s.upc := rfl
@[simp] theorem responderStep_busy (s : State) :
    (responderStep s).busy = s.busy := rfl
@[simp] theorem responderStep_done (s : State) :
    (responderStep s).done = s.done := rfl
@[simp] theorem responderStep_result (s : State) :
    (responderStep s).result = s.result := rfl
@[simp] theorem responderStep_status (s : State) :
    (responderStep s).status = s.status := rfl
@[simp] theorem responderStep_fault (s : State) :
    (responderStep s).fault = s.fault := rfl
@[simp] theorem responderStep_trace (s : State) :
    (responderStep s).trace = s.trace := rfl
@[simp] theorem responderStep_completions (s : State) :
    (responderStep s).completions = s.completions := rfl
@[simp] theorem responderStep_requests (s : State) :
    (responderStep s).requests = s.requests := rfl
@[simp] theorem responderStep_responder (s : State) :
    (responderStep s).responder = s.responder.tail := rfl
@[simp] theorem responderStep_draws (s : State) :
    (responderStep s).draws = s.draws + 1 := rfl
@[simp] theorem responderStep_waiting (s : State) :
    (responderStep s).waiting = s.waiting := rfl

/-! ### platformCarriesOut -/

@[simp] theorem platformCarriesOut_cfg (e : Event) (s : State) :
    (platformCarriesOut e s).cfg = s.cfg := rfl
@[simp] theorem platformCarriesOut_rstL (e : Event) (s : State) :
    (platformCarriesOut e s).rstL = s.rstL := rfl
@[simp] theorem platformCarriesOut_clkL (e : Event) (s : State) :
    (platformCarriesOut e s).clkL = s.clkL := rfl
@[simp] theorem platformCarriesOut_dqL (e : Event) (s : State) :
    (platformCarriesOut e s).dqL = s.dqL := rfl
@[simp] theorem platformCarriesOut_dqDir (e : Event) (s : State) :
    (platformCarriesOut e s).dqDir = s.dqDir := rfl
@[simp] theorem platformCarriesOut_session (e : Event) (s : State) :
    (platformCarriesOut e s).session = s.session := rfl
@[simp] theorem platformCarriesOut_op (e : Event) (s : State) :
    (platformCarriesOut e s).op = s.op := rfl
@[simp] theorem platformCarriesOut_operand (e : Event) (s : State) :
    (platformCarriesOut e s).operand = s.operand := rfl
@[simp] theorem platformCarriesOut_sr (e : Event) (s : State) :
    (platformCarriesOut e s).sr = s.sr := rfl
@[simp] theorem platformCarriesOut_bitIdx (e : Event) (s : State) :
    (platformCarriesOut e s).bitIdx = s.bitIdx := rfl
@[simp] theorem platformCarriesOut_upc (e : Event) (s : State) :
    (platformCarriesOut e s).upc = s.upc := rfl
@[simp] theorem platformCarriesOut_busy (e : Event) (s : State) :
    (platformCarriesOut e s).busy = s.busy := rfl
@[simp] theorem platformCarriesOut_done (e : Event) (s : State) :
    (platformCarriesOut e s).done = s.done := rfl
@[simp] theorem platformCarriesOut_result (e : Event) (s : State) :
    (platformCarriesOut e s).result = s.result := rfl
@[simp] theorem platformCarriesOut_status (e : Event) (s : State) :
    (platformCarriesOut e s).status = s.status := rfl
@[simp] theorem platformCarriesOut_fault (e : Event) (s : State) :
    (platformCarriesOut e s).fault = s.fault := rfl
@[simp] theorem platformCarriesOut_trace (e : Event) (s : State) :
    (platformCarriesOut e s).trace = s.trace ++ [e] := rfl
@[simp] theorem platformCarriesOut_completions (e : Event) (s : State) :
    (platformCarriesOut e s).completions = s.completions := rfl
@[simp] theorem platformCarriesOut_requests (e : Event) (s : State) :
    (platformCarriesOut e s).requests = s.requests := rfl
@[simp] theorem platformCarriesOut_responder (e : Event) (s : State) :
    (platformCarriesOut e s).responder = s.responder := rfl
@[simp] theorem platformCarriesOut_draws (e : Event) (s : State) :
    (platformCarriesOut e s).draws = s.draws := rfl
@[simp] theorem platformCarriesOut_waiting (e : Event) (s : State) :
    (platformCarriesOut e s).waiting = s.waiting := rfl

/-! ### complete -/

@[simp] theorem complete_cfg (s : State) :
    (complete s).cfg = s.cfg := rfl
@[simp] theorem complete_rstL (s : State) :
    (complete s).rstL = s.rstL := rfl
@[simp] theorem complete_clkL (s : State) :
    (complete s).clkL = s.clkL := rfl
@[simp] theorem complete_dqL (s : State) :
    (complete s).dqL = s.dqL := rfl
@[simp] theorem complete_dqDir (s : State) :
    (complete s).dqDir = s.dqDir := rfl
@[simp] theorem complete_session (s : State) :
    (complete s).session = s.session := rfl
@[simp] theorem complete_op (s : State) :
    (complete s).op = s.op := rfl
@[simp] theorem complete_operand (s : State) :
    (complete s).operand = s.operand := rfl
@[simp] theorem complete_sr (s : State) :
    (complete s).sr = s.sr := rfl
@[simp] theorem complete_bitIdx (s : State) :
    (complete s).bitIdx = s.bitIdx := rfl
@[simp] theorem complete_upc (s : State) :
    (complete s).upc = s.upc := rfl
@[simp] theorem complete_busy (s : State) :
    (complete s).busy = false := rfl
@[simp] theorem complete_done (s : State) :
    (complete s).done = true := rfl
@[simp] theorem complete_result (s : State) :
    (complete s).result = s.result := rfl
@[simp] theorem complete_status (s : State) :
    (complete s).status = s.status := rfl
@[simp] theorem complete_fault (s : State) :
    (complete s).fault = s.fault := rfl
@[simp] theorem complete_trace (s : State) :
    (complete s).trace = s.trace := rfl
@[simp] theorem complete_completions (s : State) :
    (complete s).completions = s.completions ++ [{ result := s.result, status := s.status, done := true, fault := s.fault }] := rfl
@[simp] theorem complete_requests (s : State) :
    (complete s).requests = s.requests := rfl
@[simp] theorem complete_responder (s : State) :
    (complete s).responder = s.responder := rfl
@[simp] theorem complete_draws (s : State) :
    (complete s).draws = s.draws := rfl
@[simp] theorem complete_waiting (s : State) :
    (complete s).waiting = s.waiting := rfl

/-! ### accept -/

@[simp] theorem accept_cfg (o : OpCode) (x : Operand) (s : State) :
    (accept o x s).cfg = s.cfg := rfl
@[simp] theorem accept_rstL (o : OpCode) (x : Operand) (s : State) :
    (accept o x s).rstL = s.rstL := rfl
@[simp] theorem accept_clkL (o : OpCode) (x : Operand) (s : State) :
    (accept o x s).clkL = s.clkL := rfl
@[simp] theorem accept_dqL (o : OpCode) (x : Operand) (s : State) :
    (accept o x s).dqL = s.dqL := rfl
@[simp] theorem accept_dqDir (o : OpCode) (x : Operand) (s : State) :
    (accept o x s).dqDir = s.dqDir := rfl
@[simp] theorem accept_session (o : OpCode) (x : Operand) (s : State) :
    (accept o x s).session = s.session := rfl
@[simp] theorem accept_op (o : OpCode) (x : Operand) (s : State) :
    (accept o x s).op = o := rfl
@[simp] theorem accept_operand (o : OpCode) (x : Operand) (s : State) :
    (accept o x s).operand = x := rfl
@[simp] theorem accept_sr (o : OpCode) (x : Operand) (s : State) :
    (accept o x s).sr = s.sr := rfl
@[simp] theorem accept_bitIdx (o : OpCode) (x : Operand) (s : State) :
    (accept o x s).bitIdx = s.bitIdx := rfl
@[simp] theorem accept_upc (o : OpCode) (x : Operand) (s : State) :
    (accept o x s).upc = 0 := rfl
@[simp] theorem accept_busy (o : OpCode) (x : Operand) (s : State) :
    (accept o x s).busy = true := rfl
@[simp] theorem accept_done (o : OpCode) (x : Operand) (s : State) :
    (accept o x s).done = false := rfl
@[simp] theorem accept_result (o : OpCode) (x : Operand) (s : State) :
    (accept o x s).result = s.result := rfl
@[simp] theorem accept_status (o : OpCode) (x : Operand) (s : State) :
    (accept o x s).status = s.status := rfl
@[simp] theorem accept_fault (o : OpCode) (x : Operand) (s : State) :
    (accept o x s).fault = s.fault := rfl
@[simp] theorem accept_trace (o : OpCode) (x : Operand) (s : State) :
    (accept o x s).trace = s.trace := rfl
@[simp] theorem accept_completions (o : OpCode) (x : Operand) (s : State) :
    (accept o x s).completions = s.completions := rfl
@[simp] theorem accept_requests (o : OpCode) (x : Operand) (s : State) :
    (accept o x s).requests = s.requests.tail := rfl
@[simp] theorem accept_responder (o : OpCode) (x : Operand) (s : State) :
    (accept o x s).responder = s.responder := rfl
@[simp] theorem accept_draws (o : OpCode) (x : Operand) (s : State) :
    (accept o x s).draws = s.draws := rfl
@[simp] theorem accept_waiting (o : OpCode) (x : Operand) (s : State) :
    (accept o x s).waiting = s.waiting := rfl

/-! ### advance -/

@[simp] theorem advance_cfg (s : State) :
    (advance s).cfg = s.cfg := rfl
@[simp] theorem advance_rstL (s : State) :
    (advance s).rstL = s.rstL := rfl
@[simp] theorem advance_clkL (s : State) :
    (advance s).clkL = s.clkL := rfl
@[simp] theorem advance_dqL (s : State) :
    (advance s).dqL = s.dqL := rfl
@[simp] theorem advance_dqDir (s : State) :
    (advance s).dqDir = s.dqDir := rfl
@[simp] theorem advance_session (s : State) :
    (advance s).session = s.session := rfl
@[simp] theorem advance_op (s : State) :
    (advance s).op = s.op := rfl
@[simp] theorem advance_operand (s : State) :
    (advance s).operand = s.operand := rfl
@[simp] theorem advance_sr (s : State) :
    (advance s).sr = s.sr := rfl
@[simp] theorem advance_bitIdx (s : State) :
    (advance s).bitIdx = s.bitIdx := rfl
@[simp] theorem advance_upc (s : State) :
    (advance s).upc = s.upc + 1 := rfl
@[simp] theorem advance_busy (s : State) :
    (advance s).busy = s.busy := rfl
@[simp] theorem advance_done (s : State) :
    (advance s).done = s.done := rfl
@[simp] theorem advance_result (s : State) :
    (advance s).result = s.result := rfl
@[simp] theorem advance_status (s : State) :
    (advance s).status = s.status := rfl
@[simp] theorem advance_fault (s : State) :
    (advance s).fault = s.fault := rfl
@[simp] theorem advance_trace (s : State) :
    (advance s).trace = s.trace := rfl
@[simp] theorem advance_completions (s : State) :
    (advance s).completions = s.completions := rfl
@[simp] theorem advance_requests (s : State) :
    (advance s).requests = s.requests := rfl
@[simp] theorem advance_responder (s : State) :
    (advance s).responder = s.responder := rfl
@[simp] theorem advance_draws (s : State) :
    (advance s).draws = s.draws := rfl
@[simp] theorem advance_waiting (s : State) :
    (advance s).waiting = s.waiting := rfl

/-! ### raiseIllegalOp -/

@[simp] theorem raiseIllegalOp_cfg (o : OpCode) (s : State) :
    (raiseIllegalOp o s).cfg = s.cfg := rfl
@[simp] theorem raiseIllegalOp_rstL (o : OpCode) (s : State) :
    (raiseIllegalOp o s).rstL = s.rstL := rfl
@[simp] theorem raiseIllegalOp_clkL (o : OpCode) (s : State) :
    (raiseIllegalOp o s).clkL = s.clkL := rfl
@[simp] theorem raiseIllegalOp_dqL (o : OpCode) (s : State) :
    (raiseIllegalOp o s).dqL = s.dqL := rfl
@[simp] theorem raiseIllegalOp_dqDir (o : OpCode) (s : State) :
    (raiseIllegalOp o s).dqDir = s.dqDir := rfl
@[simp] theorem raiseIllegalOp_session (o : OpCode) (s : State) :
    (raiseIllegalOp o s).session = s.session := rfl
@[simp] theorem raiseIllegalOp_op (o : OpCode) (s : State) :
    (raiseIllegalOp o s).op = s.op := rfl
@[simp] theorem raiseIllegalOp_operand (o : OpCode) (s : State) :
    (raiseIllegalOp o s).operand = s.operand := rfl
@[simp] theorem raiseIllegalOp_sr (o : OpCode) (s : State) :
    (raiseIllegalOp o s).sr = s.sr := rfl
@[simp] theorem raiseIllegalOp_bitIdx (o : OpCode) (s : State) :
    (raiseIllegalOp o s).bitIdx = s.bitIdx := rfl
@[simp] theorem raiseIllegalOp_upc (o : OpCode) (s : State) :
    (raiseIllegalOp o s).upc = s.upc := rfl
@[simp] theorem raiseIllegalOp_busy (o : OpCode) (s : State) :
    (raiseIllegalOp o s).busy = s.busy := rfl
@[simp] theorem raiseIllegalOp_done (o : OpCode) (s : State) :
    (raiseIllegalOp o s).done = true := rfl
@[simp] theorem raiseIllegalOp_result (o : OpCode) (s : State) :
    (raiseIllegalOp o s).result = s.result := rfl
@[simp] theorem raiseIllegalOp_status (o : OpCode) (s : State) :
    (raiseIllegalOp o s).status = s.status := rfl
@[simp] theorem raiseIllegalOp_fault (o : OpCode) (s : State) :
    (raiseIllegalOp o s).fault = true := rfl
@[simp] theorem raiseIllegalOp_trace (o : OpCode) (s : State) :
    (raiseIllegalOp o s).trace = s.trace := rfl
@[simp] theorem raiseIllegalOp_completions (o : OpCode) (s : State) :
    (raiseIllegalOp o s).completions = s.completions ++ [{ result := s.result, status := s.status, done := true, fault := true }] := rfl
@[simp] theorem raiseIllegalOp_requests (o : OpCode) (s : State) :
    (raiseIllegalOp o s).requests = s.requests.tail := rfl
@[simp] theorem raiseIllegalOp_responder (o : OpCode) (s : State) :
    (raiseIllegalOp o s).responder = s.responder := rfl
@[simp] theorem raiseIllegalOp_draws (o : OpCode) (s : State) :
    (raiseIllegalOp o s).draws = s.draws := rfl
@[simp] theorem raiseIllegalOp_waiting (o : OpCode) (s : State) :
    (raiseIllegalOp o s).waiting = s.waiting := rfl

/-! ### applyPost: only `result` and `status` can change -/

@[simp] theorem applyPost_cfg (p : Post) (s : State) :
    (applyPost p s).cfg = s.cfg := by cases p <;> rfl
@[simp] theorem applyPost_rstL (p : Post) (s : State) :
    (applyPost p s).rstL = s.rstL := by cases p <;> rfl
@[simp] theorem applyPost_clkL (p : Post) (s : State) :
    (applyPost p s).clkL = s.clkL := by cases p <;> rfl
@[simp] theorem applyPost_dqL (p : Post) (s : State) :
    (applyPost p s).dqL = s.dqL := by cases p <;> rfl
@[simp] theorem applyPost_dqDir (p : Post) (s : State) :
    (applyPost p s).dqDir = s.dqDir := by cases p <;> rfl
@[simp] theorem applyPost_session (p : Post) (s : State) :
    (applyPost p s).session = s.session := by cases p <;> rfl
@[simp] theorem applyPost_op (p : Post) (s : State) :
    (applyPost p s).op = s.op := by cases p <;> rfl
@[simp] theorem applyPost_operand (p : Post) (s : State) :
    (applyPost p s).operand = s.operand := by cases p <;> rfl
@[simp] theorem applyPost_sr (p : Post) (s : State) :
    (applyPost p s).sr = s.sr := by cases p <;> rfl
@[simp] theorem applyPost_bitIdx (p : Post) (s : State) :
    (applyPost p s).bitIdx = s.bitIdx := by cases p <;> rfl
@[simp] theorem applyPost_upc (p : Post) (s : State) :
    (applyPost p s).upc = s.upc := by cases p <;> rfl
@[simp] theorem applyPost_busy (p : Post) (s : State) :
    (applyPost p s).busy = s.busy := by cases p <;> rfl
@[simp] theorem applyPost_done (p : Post) (s : State) :
    (applyPost p s).done = s.done := by cases p <;> rfl
@[simp] theorem applyPost_fault (p : Post) (s : State) :
    (applyPost p s).fault = s.fault := by cases p <;> rfl
@[simp] theorem applyPost_trace (p : Post) (s : State) :
    (applyPost p s).trace = s.trace := by cases p <;> rfl
@[simp] theorem applyPost_completions (p : Post) (s : State) :
    (applyPost p s).completions = s.completions := by cases p <;> rfl
@[simp] theorem applyPost_requests (p : Post) (s : State) :
    (applyPost p s).requests = s.requests := by cases p <;> rfl
@[simp] theorem applyPost_responder (p : Post) (s : State) :
    (applyPost p s).responder = s.responder := by cases p <;> rfl
@[simp] theorem applyPost_draws (p : Post) (s : State) :
    (applyPost p s).draws = s.draws := by cases p <;> rfl
@[simp] theorem applyPost_waiting (p : Post) (s : State) :
    (applyPost p s).waiting = s.waiting := by cases p <;> rfl

end Sys2Proof.Laws
end

