-- ==== Sys2Proof/Laws/Ops.lean ====
section
/-! SUPPORT. What each shared operation can do, said once: the codec's bits, the micro-operations, blocks, `carryOut`
and `engineStep`. -/

namespace Sys2Proof.Laws

open Sys2Proof.Machine

/-! ### Bits -/

theorem orBit_getLsbD (r : Raw) (i : BitIndex) (b : Bool) (j : Nat) :
    (orBit r i b).getLsbD j = (r.getLsbD j || (decide (j = i.val) && b)) := by
  have hi := i.isLt
  simp only [orBit, BitVec.getLsbD_or, BitVec.getLsbD_shiftLeft, BitVec.getLsbD_setWidth, BitVec.getLsbD_ofBool]
  by_cases h : j = i.val
  · subst h
    simp [hi]
  · by_cases h2 : j < i.val
    · simp [h, h2]
    · have h3 : j - i.val ≠ 0 := by omega
      simp [h, h3]

@[simp] theorem bitOf_levelOf (b : Bool) : bitOf (levelOf b) = b := by cases b <;> rfl

@[simp] theorem levelOf_bitOf (v : Level) : levelOf (bitOf v) = v := by cases v <;> rfl

@[simp] theorem txLoad_zero (f sr : Raw) : txLoad f 0 sr = f := rfl

/-- Sampling moves the responder's coming levels up by one. -/
@[simp] theorem rxBit_sampleLevel (i : BitIndex) (s : State) (k : Nat) :
    (rxBit i s).sampleLevel k = s.sampleLevel (k + 1) := by
  simp only [State.sampleLevel, rxBit_responder, rxBit_draws, List.getElem?_tail,
    Nat.add_assoc, Nat.add_comm 1 k]

/-! ### Micro-operations: what none of them changes -/

@[simp] theorem microStep_cfg (m : MicroOp) (s : State) : (microStep m s).cfg = s.cfg := by
  cases m <;> simp [microStep, post]

@[simp] theorem microStep_op (m : MicroOp) (s : State) : (microStep m s).op = s.op := by
  cases m <;> simp [microStep, post]

@[simp] theorem microStep_operand (m : MicroOp) (s : State) : (microStep m s).operand = s.operand := by
  cases m <;> simp [microStep, post]

@[simp] theorem microStep_upc (m : MicroOp) (s : State) : (microStep m s).upc = s.upc := by
  cases m <;> simp [microStep, post]

@[simp] theorem microStep_fault (m : MicroOp) (s : State) : (microStep m s).fault = s.fault := by
  cases m <;> simp [microStep, post]

@[simp] theorem microStep_requests (m : MicroOp) (s : State) : (microStep m s).requests = s.requests := by
  cases m <;> simp [microStep, post]

/-- Only a `POST` ends the operation. -/
theorem microStep_busy (m : MicroOp) (s : State) :
    (microStep m s).busy = s.busy ∨ ∃ p, m = .post p ∧ (microStep m s).busy = false := by
  cases m <;> simp [microStep, post]

/-- A micro-operation issues at most one line event (40_primitives.md R70). -/
theorem microStep_trace (m : MicroOp) (s : State) :
    (microStep m s).trace = s.trace ∨ ∃ e, (microStep m s).trace = s.trace ++ [e] := by
  cases m <;> simp [microStep, post]

/-- No micro-operation leaves a wait outstanding that was not. -/
theorem microStep_waiting (m : MicroOp) {s : State} (h : s.waiting = none) : (microStep m s).waiting = none := by
  cases m <;> simp [microStep, post, h]

/-! ### Moves -/

/-- Every micro-operation but `WAIT` is carried out in one move. -/
theorem microMove_of_ne {m : MicroOp} (h : m ≠ .wait) (s : State) : microMove m s = advance (microStep m s) := by
  cases m <;> first | rfl | exact absurd rfl h

/-- At `WAIT` with no wait outstanding, the engine issues it. -/
theorem microMove_wait_issue {s : State} (h : s.waiting = none) : microMove .wait s = issueWait s := by
  simp [microMove, h]

/-- At `WAIT` with the wait outstanding, the platform ends it. -/
theorem microMove_wait_end {s : State} {ms : Nat} (h : s.waiting = some ms) :
    microMove .wait s = advance (platformEndsWait s) := by
  simp [microMove, h]

/-- All that a move can be. -/
theorem microMove_cases (m : MicroOp) (s : State) :
    (m ≠ .wait ∧ microMove m s = advance (microStep m s)) ∨
      (m = .wait ∧ s.waiting = none ∧ microMove m s = issueWait s) ∨
      (m = .wait ∧ s.waiting.isSome = true ∧ microMove m s = advance (platformEndsWait s)) := by
  by_cases hm : m = .wait
  · subst hm
    cases h : s.waiting with
    | none => exact .inr (.inl ⟨rfl, rfl, microMove_wait_issue h⟩)
    | some ms => exact .inr (.inr ⟨rfl, rfl, microMove_wait_end h⟩)
  · exact .inl ⟨hm, microMove_of_ne hm s⟩

@[simp] theorem microMove_cfg (m : MicroOp) (s : State) : (microMove m s).cfg = s.cfg := by
  obtain ⟨-, h⟩ | ⟨-, -, h⟩ | ⟨-, -, h⟩ := microMove_cases m s <;> simp [h]

@[simp] theorem microMove_op (m : MicroOp) (s : State) : (microMove m s).op = s.op := by
  obtain ⟨-, h⟩ | ⟨-, -, h⟩ | ⟨-, -, h⟩ := microMove_cases m s <;> simp [h]

@[simp] theorem microMove_operand (m : MicroOp) (s : State) : (microMove m s).operand = s.operand := by
  obtain ⟨-, h⟩ | ⟨-, -, h⟩ | ⟨-, -, h⟩ := microMove_cases m s <;> simp [h]

@[simp] theorem microMove_fault (m : MicroOp) (s : State) : (microMove m s).fault = s.fault := by
  obtain ⟨-, h⟩ | ⟨-, -, h⟩ | ⟨-, -, h⟩ := microMove_cases m s <;> simp [h]

@[simp] theorem microMove_requests (m : MicroOp) (s : State) : (microMove m s).requests = s.requests := by
  obtain ⟨-, h⟩ | ⟨-, -, h⟩ | ⟨-, -, h⟩ := microMove_cases m s <;> simp [h]

/-- Only a `POST` ends the operation. -/
theorem microMove_busy (m : MicroOp) (s : State) :
    (microMove m s).busy = s.busy ∨ ∃ p, m = .post p ∧ microMove m s = advance (post p s) := by
  obtain ⟨-, h⟩ | ⟨-, -, h⟩ | ⟨-, -, h⟩ := microMove_cases m s
  · obtain hb | ⟨p, rfl, -⟩ := microStep_busy m s
    · exact .inl (by simpa [h] using hb)
    · exact .inr ⟨p, rfl, h⟩
  · exact .inl (by simp [h])
  · exact .inl (by simp [h])

/-- A move issues at most one line event. -/
theorem microMove_trace (m : MicroOp) (s : State) :
    (microMove m s).trace = s.trace ∨ ∃ e, (microMove m s).trace = s.trace ++ [e] := by
  obtain ⟨-, h⟩ | ⟨-, -, h⟩ | ⟨-, -, h⟩ := microMove_cases m s
  · simpa [h] using microStep_trace m s
  · exact .inr ⟨_, by rw [h]; rfl⟩
  · exact .inl (by simp [h])

/-! ### Blocks -/

@[simp] theorem runBlock_nil (s : State) : runBlock [] s = s := rfl

@[simp] theorem runBlock_cons (m : MicroOp) (ms : List MicroOp) (s : State) :
    runBlock (m :: ms) s = runBlock ms (microStep m s) := rfl

theorem runBlock_append (ms ns : List MicroOp) (s : State) :
    runBlock (ms ++ ns) s = runBlock ns (runBlock ms s) := by
  simp [runBlock, List.foldl_append]

/-- The micro-operations of a block keep the latched operation, the parameters and `UPC`. -/
theorem runBlock_keeps (ms : List MicroOp) (s : State) :
    (runBlock ms s).cfg = s.cfg ∧ (runBlock ms s).op = s.op ∧ (runBlock ms s).operand = s.operand ∧
      (runBlock ms s).upc = s.upc := by
  induction ms generalizing s with
  | nil => simp
  | cons m ms ih => simpa using ih (microStep m s)

/-- No micro-operation reads `UPC`. -/
theorem microStep_advance (m : MicroOp) (s : State) : microStep m (advance s) = advance (microStep m s) := by
  cases m with
  | post p => cases p <;> rfl
  | _ => rfl

/-- A block run after an `advance` is the block run before it. -/
theorem runBlock_advance (ms : List MicroOp) (s : State) : runBlock ms (advance s) = advance (runBlock ms s) := by
  induction ms generalizing s with
  | nil => rfl
  | cons m ms ih => rw [runBlock_cons, microStep_advance, runBlock_cons, ih]

/-! ### The lengths of the micro-programs (70_reset_and_hazards.md R138) -/

theorem readProgram_length (c : Command) (p : Post) : (readProgram c p).length = 58 := rfl

theorem writeThresholdProgram_length (c : Command) (x : Operand) : (writeThresholdProgram c x).length = 57 := rfl

theorem commandProgram_length (c : Command) : (commandProgram c).length = 29 := rfl

theorem writeConfigProgram_rejected (c d : Command) {x : Operand} (h : x.toInt ≤ 0) :
    writeConfigProgram c d x = [.post .reject] := by
  simp [writeConfigProgram, configRejected, h]

theorem writeConfigProgram_accepted (c d : Command) {x : Operand} (h : 0 < x.toInt) :
    writeConfigProgram c d x =
      beginBlock ++ tx8 c ++ tx8 (cfgPayload x) ++ settleBlock ++ endBlock ++ beginBlock ++ tx8 d ++ rx9 ++
        endBlock ++ [.post .verify] := by
  have hr : configRejected x = false := by simp [configRejected, h]
  rw [writeConfigProgram, hr]
  rfl

theorem writeConfigProgram_length (c d : Command) (x : Operand) :
    (writeConfigProgram c d x).length = if configRejected x then 1 else 111 := by
  unfold writeConfigProgram
  split <;> rfl

/-! ### The engine's step -/

/-- Where the program has a micro-operation at `UPC`, its next move is taken. -/
theorem carryOut_eq {prog : List MicroOp} {s : State} {m : MicroOp} (h : prog[s.upc]? = some m) :
    carryOut prog s = .next (microMove m s) := by
  simp [carryOut, h]

/-- All that `carryOut` can do when it goes on. -/
theorem carryOut_next {prog : List MicroOp} {s t : State} (h : carryOut prog s = .next t) :
    ∃ m, prog[s.upc]? = some m ∧ t = microMove m s := by
  unfold carryOut at h
  split at h
  · next m hm => exact ⟨m, hm, by simpa using h.symm⟩
  · cases h

/-- All that `engineStep` can do when it goes on: ACCEPT, or the next move of this operation. -/
theorem engineStep_next {o : OpCode} {x : Operand} {prog : List MicroOp} {s t : State}
    (h : engineStep o x prog s = .next t) :
    (s.busy = false ∧ t = accept o x s) ∨
      (s.busy = true ∧ s.op = o ∧ s.operand = x ∧
        ∃ m, prog[s.upc]? = some m ∧ t = microMove m s) := by
  unfold engineStep at h
  split at h
  · next hb =>
    split at h
    · next ho => exact .inr ⟨hb, ho.1, ho.2, carryOut_next h⟩
    · cases h
  · next hb => exact .inl ⟨by simpa using hb, by simpa using h.symm⟩

theorem engineStep_idle {o : OpCode} {x : Operand} {prog : List MicroOp} {s : State} (h : s.busy = false) :
    engineStep o x prog s = .next (accept o x s) := by
  simp [engineStep, h]

theorem engineStep_busy {o : OpCode} {x : Operand} {prog : List MicroOp} {s : State} (h : s.busy = true)
    (ho : s.op = o) (hx : s.operand = x) : engineStep o x prog s = carryOut prog s := by
  simp [engineStep, h, ho, hx]

end Sys2Proof.Laws
end

