-- ==== Sys2Proof/Laws/PerInstr.lean ====
section
/-! SUPPORT. A law of every instruction, one lemma per constructor: the request word carries the operation's code in
`REQ[3:0]` and its operand in `REQ[19:4]`, and no code is reserved (30_encoding.md R56, R57, R58). -/

namespace Sys2Proof.Laws.RequestFields

/-- The instruction's word has its fields where R56 puts them, and its code is one of R57's. -/
def Statement (i : Instr) : Prop :=
  i.wellFormed = true ∧ reqOp (encode i) = i.opcode ∧ reqOperand (encode i) = i.operand ∧ i.opcode.toNat < 0xB

/-- The two field laws hold of every word made of an operand and a code. -/
theorem of_code {i : Instr} (hw : i.wellFormed = true) (hc : i.opcode.toNat < 0xB) : Statement i :=
  ⟨hw, reqOp_reqWord _ _, reqOperand_reqWord _ _, hc⟩

theorem readTemp (x : Operand) : Statement (.readTemp x) := of_code rfl (by simp [Instr.opcode])
theorem writeTh (x : Operand) : Statement (.writeTh x) := of_code rfl (by simp [Instr.opcode])
theorem writeTl (x : Operand) : Statement (.writeTl x) := of_code rfl (by simp [Instr.opcode])
theorem readTh (x : Operand) : Statement (.readTh x) := of_code rfl (by simp [Instr.opcode])
theorem readTl (x : Operand) : Statement (.readTl x) := of_code rfl (by simp [Instr.opcode])
theorem readCounter (x : Operand) : Statement (.readCounter x) := of_code rfl (by simp [Instr.opcode])
theorem readSlope (x : Operand) : Statement (.readSlope x) := of_code rfl (by simp [Instr.opcode])
theorem startConvert (x : Operand) : Statement (.startConvert x) := of_code rfl (by simp [Instr.opcode])
theorem stopConvert (x : Operand) : Statement (.stopConvert x) := of_code rfl (by simp [Instr.opcode])
theorem writeConfig (x : Operand) : Statement (.writeConfig x) := of_code rfl (by simp [Instr.opcode])
theorem readConfig (x : Operand) : Statement (.readConfig x) := of_code rfl (by simp [Instr.opcode])

end Sys2Proof.Laws.RequestFields
end

