-- ==== Sys2Proof/Laws/Step.lean ====
section
/-! SUPPORT. What `exec` and `step` can do, said once, and runs of many steps through a micro-program. -/

namespace Sys2Proof.Laws

open Sys2Proof.Machine

/-- Every meaning is the engine's step with the operation's code, operand and micro-program. -/
theorem exec_eq (i : Instr) (s : State) :
    exec i s = engineStep i.opcode i.operand (program s.cfg i) s := by
  cases i <;> rfl

/-- All that `exec` can do when it goes on. -/
theorem exec_next {i : Instr} {s t : State} (h : exec i s = .next t) :
    (s.busy = false ∧ t = accept i.opcode i.operand s) ∨
      (s.busy = true ∧ s.op = i.opcode ∧ s.operand = i.operand ∧
        ∃ m, (program s.cfg i)[s.upc]? = some m ∧ t = microMove m s) :=
  engineStep_next (exec_eq i s ▸ h)

/-- While an operation is carried out, `step` is `exec` of the latched operation. -/
theorem step_busy {s : State} {i : Instr} (hb : s.busy = true)
    (hd : decodeWord (reqWord s.operand s.op) = .ok i) : step s = exec i s := by
  simp [step, currentWord, hb, hd]

/-- In an idle engine `step` is `exec` of the operation the presented word spells. -/
theorem step_idle {s : State} {w : Req} {rest : List Req} {i : Instr} (hb : s.busy = false)
    (hr : s.requests = w :: rest) (hd : decodeWord w = .ok i) : step s = exec i s := by
  simp [step, currentWord, hb, hr, hd]

/-- All that a step can do when it goes on: idle, ACCEPT, FAULT_ILLEGAL_OP, or the next move of the latched operation
(40_primitives.md R71). -/
theorem step_next {s t : State} (h : step s = .next t) :
    (s.busy = false ∧ s.requests = [] ∧ t = s) ∨
      (s.busy = false ∧ ∃ w rest i, s.requests = w :: rest ∧ decodeWord w = .ok i ∧
        t = accept i.opcode i.operand s) ∨
      (s.busy = false ∧ ∃ w rest, s.requests = w :: rest ∧ decodeWord w = .error (.reservedOp (reqOp w)) ∧
        t = raiseIllegalOp (reqOp w) s) ∨
      (s.busy = true ∧ ∃ i m, decodeWord (reqWord s.operand s.op) = .ok i ∧ i.opcode = s.op ∧
        i.operand = s.operand ∧ (program s.cfg i)[s.upc]? = some m ∧ t = microMove m s) := by
  unfold step currentWord at h
  cases hb : s.busy with
  | true =>
    refine .inr (.inr (.inr ⟨rfl, ?_⟩))
    simp only [hb, if_true] at h
    cases hd : decodeWord (reqWord s.operand s.op) with
    | ok i =>
      simp only [hd] at h
      obtain ⟨hf, -⟩ | ⟨-, ho, hx, m, hm, rfl⟩ := exec_next h
      · rw [hb] at hf
        cases hf
      · exact ⟨i, m, rfl, ho.symm, hx.symm, hm, rfl⟩
    | error e =>
      simp only [hd, rejectRequest, hb, if_true] at h
      cases h
  | false =>
    simp only [hb, Bool.false_eq_true, if_false] at h
    cases hr : s.requests with
    | nil =>
      simp only [hr, List.head?_nil, idleStep, Host.Outcome.next.injEq] at h
      exact .inl ⟨rfl, rfl, h.symm⟩
    | cons w rest =>
      simp only [hr, List.head?_cons] at h
      cases hd : decodeWord w with
      | ok i =>
        simp only [hd] at h
        obtain ⟨-, rfl⟩ | ⟨hf, -⟩ := exec_next h
        · exact .inr (.inl ⟨rfl, w, rest, i, rfl, hd, rfl⟩)
        · rw [hb] at hf
          cases hf
      | error e =>
        obtain ⟨rfl, -⟩ := decodeFields_error hd
        simp only [hd, rejectRequest, hb, Bool.false_eq_true, if_false, Host.Outcome.next.injEq] at h
        exact .inr (.inr (.inl ⟨rfl, w, rest, rfl, hd, h.symm⟩))

/-! ### Runs -/

theorem run_zero (s : State) : Sys2Proof.core.run 0 s = .next s := rfl

/-- One step that goes on, then the rest of the run. -/
theorem run_succ {s t : State} (n : Nat) (h : step s = .next t) :
    Sys2Proof.core.run (n + 1) s = Sys2Proof.core.run n t := by
  have h' : Sys2Proof.core.step s = .next t := h
  simp only [Host.Core.run, h']

/-- A busy engine takes the next move of the micro-operation at `UPC`. -/
theorem step_move {i : Instr} {m : MicroOp} {s : State} (hb : s.busy = true)
    (hd : decodeWord (reqWord s.operand s.op) = .ok i) (hm : (program s.cfg i)[s.upc]? = some m) :
    step s = .next (microMove m s) := by
  have hlatched := decodeFields_ok ((decodeWord_reqWord _ _).symm.trans hd)
  rw [step_busy hb hd, exec_eq, engineStep_busy hb hlatched.1.symm hlatched.2.symm, carryOut_eq hm]

/-- A busy engine takes one micro-operation of its program per step: a block of them that holds no `POST` and no `WAIT`
is the block run at once, with `UPC` moved past it. -/
theorem run_block {i : Instr} (ms rest : List MicroOp) (s : State) (hb : s.busy = true)
    (hd : decodeWord (reqWord s.operand s.op) = .ok i)
    (hprog : (program s.cfg i).drop s.upc = ms ++ rest) (hpost : ∀ p, MicroOp.post p ∉ ms)
    (hwait : MicroOp.wait ∉ ms) (n : Nat) :
    Sys2Proof.core.run (ms.length + n) s =
      Sys2Proof.core.run n { runBlock ms s with upc := s.upc + ms.length } := by
  induction ms generalizing s with
  | nil => simp
  | cons m ms ih =>
    have hm : (program s.cfg i)[s.upc]? = some m := by
      have := congrArg (·[0]?) hprog
      simpa using this
    have hne : m ≠ .wait := fun h => hwait (h ▸ List.mem_cons_self)
    have hstep := step_move hb hd hm
    rw [microMove_of_ne hne] at hstep
    have hbusy : (microStep m s).busy = true := by
      obtain h | ⟨p, rfl, -⟩ := microStep_busy m s
      · rw [h, hb]
      · exact absurd (List.mem_cons_self) (hpost p)
    have hdrop : (program (advance (microStep m s)).cfg i).drop (advance (microStep m s)).upc = ms ++ rest := by
      have := congrArg (List.drop 1) hprog
      simpa [List.drop_drop, Nat.add_comm] using this
    rw [List.length_cons, show ms.length + 1 + n = (ms.length + n) + 1 by omega, run_succ _ hstep,
      ih (advance (microStep m s)) (by simpa using hbusy) (by simpa using hd) hdrop
        (fun p hp => hpost p (List.mem_cons_of_mem _ hp)) (fun hp => hwait (List.mem_cons_of_mem _ hp)),
      runBlock_cons, runBlock_advance]
    simp [advance, Nat.add_comm, Nat.add_left_comm]

/-- A `WAIT` takes two steps: the engine issues it, the platform ends it. -/
theorem run_wait {i : Instr} {s : State} (hb : s.busy = true) (hd : decodeWord (reqWord s.operand s.op) = .ok i)
    (hm : (program s.cfg i)[s.upc]? = some .wait) (hw : s.waiting = none) (n : Nat) :
    Sys2Proof.core.run (n + 2) s = Sys2Proof.core.run n (advance (microStep .wait s)) := by
  have h1 := step_move hb hd hm
  rw [microMove_wait_issue hw] at h1
  have h2 : step (issueWait s) = .next (microMove .wait (issueWait s)) :=
    step_move (i := i) (by simpa using hb) (by simpa using hd) (by simpa using hm)
  rw [microMove_wait_end (issueWait_waiting s)] at h2
  rw [show n + 2 = (n + 1) + 1 by omega, run_succ _ h1, run_succ _ h2]
  rfl

end Sys2Proof.Laws
end

