-- ==== Sys2Proof/Laws/Safety.lean ====
section
/-! SUPPORT. The small lemmas of Safety: one micro-operation's effect on the framing, one more event's effect on the
monitor and on what a trace last did to a line. -/

namespace Sys2Proof.Laws

open Sys2Proof.Machine

/-- A micro-operation changes the framing as `Framing.after` says. -/
theorem microStep_framing (m : MicroOp) (s : State) : (microStep m s).framing = s.framing.after m := by
  cases m with
  | drv l v => cases l <;> cases v <;> rfl
  | post p => cases p <;> rfl
  | _ => rfl

@[simp] theorem advance_framing (s : State) : (advance s).framing = s.framing := rfl

@[simp] theorem issueWait_framing (s : State) : (issueWait s).framing = s.framing := rfl

@[simp] theorem platformEndsWait_framing (s : State) : (platformEndsWait s).framing = s.framing := rfl

@[simp] theorem accept_framing (o : OpCode) (x : Operand) (s : State) : (accept o x s).framing = s.framing := rfl

@[simp] theorem raiseIllegalOp_framing (o : OpCode) (s : State) : (raiseIllegalOp o s).framing = s.framing := rfl

@[simp] theorem afterAll_nil (f : Framing) : f.afterAll [] = f := rfl

theorem afterAll_append (ms ns : List MicroOp) (f : Framing) :
    f.afterAll (ms ++ ns) = (f.afterAll ms).afterAll ns := by
  simp [Framing.afterAll, List.foldl_append]

/-- The framing after one micro-operation more. -/
theorem afterAll_take_succ {ms : List MicroOp} {k : Nat} {m : MicroOp} (h : ms[k]? = some m) (f : Framing) :
    f.afterAll (ms.take (k + 1)) = (f.afterAll (ms.take k)).after m := by
  rw [List.take_add_one, h, afterAll_append]
  rfl

/-- The monitor after one event more. -/
theorem monitor_snoc {es : List Event} {f g : Framing} (h : monitor f es = some g) (e : Event) :
    monitor f (es ++ [e]) = g.onEvent e := by
  induction es generalizing f with
  | nil =>
    obtain rfl : f = g := by simpa [monitor] using h
    simp only [List.nil_append, monitor]
    cases f.onEvent e <;> rfl
  | cons a es ih =>
    simp only [monitor, List.cons_append] at h ⊢
    cases ha : f.onEvent a with
    | none => simp [ha] at h
    | some b =>
      simp only [ha] at h ⊢
      exact ih h

@[simp] theorem lastDriven_snoc (l : Line) (es : List Event) (e : Event) :
    lastDriven l (es ++ [e]) =
      if e = .drive l .low then .driven .low else if e = .drive l .high then .driven .high else lastDriven l es := by
  simp [lastDriven, List.foldl_append]

@[simp] theorem lastDirection_snoc (es : List Event) (e : Event) :
    lastDirection (es ++ [e]) =
      if e = .dir .dq .input then .input else if e = .dir .dq .output then .output else lastDirection es := by
  simp [lastDirection, List.foldl_append]

end Sys2Proof.Laws
end

