-- ==== Sys2Proof/Tests/Slice0.lean ====
section
/-! SUPPORT. Small tests: the expected values are those of 95_test_vectors.md and of the rules named; then, for every
statement with hypotheses, a witness that meets them. -/

namespace Sys2Proof.Tests

open Sys2Proof.Machine

/-! ### Helpers -/

/-- The next state of an outcome, or the reset state with `FAULT` and `BUSY` set where there is none (no test expects
such a state). -/
def nextOf (o : Host.Outcome State Fault Refusal) : State :=
  match o with
  | .next t => t
  | .fault _ => { State.reset with fault := true, busy := true }
  | .refused _ => { State.reset with fault := true, busy := true }

/-- The outcome is this refusal. -/
def refusedAs (o : Host.Outcome State Fault Refusal) (r : Refusal) : Bool :=
  match o with
  | .next _ => false
  | .fault _ => false
  | .refused q => q == r

/-- The outcome is this fault. -/
def faultsAs (o : Host.Outcome State Fault Refusal) (r : Fault) : Bool :=
  match o with
  | .next _ => false
  | .fault q => q == r
  | .refused _ => false

/-- The engine carrying out an operation, at one index of its micro-program. -/
def midway (i : Instr) (k : Nat) : State :=
  { State.reset with busy := true, op := i.opcode, operand := i.operand, upc := k }

/-- The engine about to carry out the POST of an operation, with a received frame in `SR`. -/
def received (i : Instr) (k : Nat) (sr : Raw) : State := { midway i k with sr := sr }

/-- The idle engine with one request presented. -/
def presented (w : Req) : State := { State.reset with requests := [w] }

/-- The engine in READ_TEMP's reception, as its first 28 micro-operations leave framing and trace. -/
def receiving : State :=
  { midway (.readTemp 0) 28 with
    rstL := .driven .high
    clkL := .driven .high
    dqL := .driven .high
    session := .opened
    dqDir := .input
    trace := constructionEvents ++ beginEvents ++ sentEvents (lsbFirst 8 0xAA#8) ++ [.dir .dq .input] }

/-- The engine in WRITE_TH's settle wait, which the platform has not ended: 54 is its WAIT. -/
def settling : State :=
  { midway (.writeTh 0) 54 with
    rstL := .driven .high
    clkL := .driven .high
    session := .opened
    waiting := some 10 }

/-! ### Decoding: words written out from 30_encoding.md R56 and R57 -/

theorem test_decode_read_temp : decodeWord 0b0000_0000_0000_0000_0000#20 = .ok (.readTemp 0) := by decide
theorem test_decode_write_th : decodeWord 0b1111_1111_1111_0110_0001#20 = .ok (.writeTh 0xFFF6) := by decide
theorem test_decode_write_tl : decodeWord 0b1000_0000_0000_0000_0010#20 = .ok (.writeTl 0x8000) := by decide
theorem test_decode_read_th : decodeWord 0b0000_0000_0000_0000_0011#20 = .ok (.readTh 0) := by decide
theorem test_decode_read_tl : decodeWord 0b0000_0000_0000_0000_0100#20 = .ok (.readTl 0) := by decide
theorem test_decode_read_counter : decodeWord 0b0000_0000_0000_0000_0101#20 = .ok (.readCounter 0) := by decide
theorem test_decode_read_slope : decodeWord 0b0000_0000_0000_0000_0110#20 = .ok (.readSlope 0) := by decide
theorem test_decode_start_convert : decodeWord 0b0000_0000_0000_0000_0111#20 = .ok (.startConvert 0) := by decide
theorem test_decode_stop_convert : decodeWord 0b0000_0000_0000_0000_1000#20 = .ok (.stopConvert 0) := by decide
theorem test_decode_write_config : decodeWord 0b0000_0001_0010_1100_1001#20 = .ok (.writeConfig 300) := by decide
theorem test_decode_read_config : decodeWord 0b0000_0000_0000_0000_1010#20 = .ok (.readConfig 0) := by decide
theorem test_decode_ignored_operand : decodeWord 0xABCD0#20 = .ok (.readTemp 0xABCD) := by decide
theorem test_decode_reserved :
    [0x0000B#20, 0x0000C#20, 0x0000D#20, 0x0000E#20, 0x1234F#20].map decodeWord =
      [.error (.reservedOp 0xB), .error (.reservedOp 0xC), .error (.reservedOp 0xD), .error (.reservedOp 0xE),
       .error (.reservedOp 0xF)] := by decide
theorem test_encode_write_th : encode (.writeTh (BitVec.ofInt 16 (-10))) = 0xFFF61#20 := by decide
theorem test_decode_table_word : decodeTableWord 24 0x7FFF9 = some (.writeConfig 0x7FFF) := by decide
theorem test_decode_table_word_short : decodeTableWord 8 0x0A = some (.readConfig 0) := by decide
theorem test_decode_table_word_reserved : decodeTableWord 24 0x0000B = none := by decide

/-! ### Well-formedness -/

theorem test_default_config_well_formed : Config.default.wellFormed = true := by decide
theorem test_config_dq_clk_equal_refused : { Config.default with clkId := 0 }.wellFormed = false := by decide
theorem test_config_dq_rst_equal_refused : { Config.default with rstId := 0 }.wellFormed = false := by decide
theorem test_config_clk_rst_equal_refused : { Config.default with rstId := 1 }.wellFormed = false := by decide
theorem test_assembler_form_refuses_ignored_operand : (Instr.readTemp 1).assemblerForm = false := by decide
theorem test_every_operand_well_formed : (Instr.writeConfig 0x8000).wellFormed = true := by decide

/-! ### Codec (95_test_vectors.md V-C) -/

theorem test_decode_temp_vectors :
    [0x005#9, 0x014#9, 0x0FF#9, 0x100#9, 0x101#9, 0x114#9, 0x192#9, 0x1FD#9, 0x1FF#9].map decodeTemp =
      [2, 10, 127, -128, -127, -118, -55, -1, 0] := by decide
theorem test_decode_th_vectors :
    [0x001#9, 0x0FB#9, 0x100#9, 0x192#9, 0x1EC#9, 0x1FF#9].map decodeTh = [0, 125, 128, 201, 246, 255] := by decide
theorem test_encode_th_vectors :
    [125#16, 128#16, 255#16, 256#16, 0xFFFF#16, 0xFFF6#16, 0xFFC9#16, 0x7FFF#16, 0x8000#16].map encodeTh =
      [0x0FA#9, 0x100#9, 0x1FE#9, 0x000#9, 0x1FE#9, 0x1EC#9, 0x192#9, 0x1FE#9, 0x000#9] := by decide

/-! ### Each operation at its POST (95_test_vectors.md V-R, V-W2) -/

theorem test_read_temp_negative : (nextOf (exec (.readTemp 0) (received (.readTemp 0) 57 0x114))).result = 0xFF8A := by
  decide
theorem test_read_temp_odd_negative : (nextOf (exec (.readTemp 0) (received (.readTemp 0) 57 0x1FF))).result = 0 := by
  decide
theorem test_read_th : (nextOf (exec (.readTh 0) (received (.readTh 0) 57 0x1EC))).result = 0x00F6 := by decide
theorem test_read_tl : (nextOf (exec (.readTl 0) (received (.readTl 0) 57 0x192))).result = 0x00C9 := by decide
theorem test_read_counter : (nextOf (exec (.readCounter 0) (received (.readCounter 0) 57 0x1FF))).result = 0x01FF := by
  decide
theorem test_read_slope : (nextOf (exec (.readSlope 0) (received (.readSlope 0) 57 0x100))).result = 0x0100 := by decide
theorem test_read_config : (nextOf (exec (.readConfig 0) (received (.readConfig 0) 57 0x1AC))).result = 0x00AC := by
  decide
theorem test_write_config_bit8_ignored :
    (nextOf (exec (.writeConfig 255) (received (.writeConfig 255) 110 0x1FF))).status = 0 := by decide
theorem test_write_config_above_255 :
    (nextOf (exec (.writeConfig 300) (received (.writeConfig 300) 110 0x02C))).status = 1 := by decide
theorem test_write_config_rejects_negative :
    (nextOf (exec (.writeConfig 0x8000) (midway (.writeConfig 0x8000) 0))).status = 2 := by decide
theorem test_write_config_rejects_zero_silently :
    (nextOf (exec (.writeConfig 0) (midway (.writeConfig 0) 0))).trace = constructionEvents := by decide

/-! ### Each operation on the wire -/

/-- WRITE_TH -10: bit 2 of 0x1EC is 1 (V-C3: L L H H L H H H H). -/
theorem test_write_th_bit :
    (nextOf (exec (.writeTh 0xFFF6) (received (.writeTh 0xFFF6) 33 0x1EC))).dqL = .driven .high := by decide
/-- WRITE_TL -55: the frame 0x192 is loaded at its first bit, which is L. -/
theorem test_write_tl_loads_frame :
    (nextOf (exec (.writeTl 0xFFC9) (midway (.writeTl 0xFFC9) 27))).sr = 0x192#9 := by decide
/-- START_CONVERT: the command 0xEE is loaded at the first bit (R107: L H H H L H H H). -/
theorem test_start_convert_command :
    (nextOf (exec (.startConvert 0) (midway (.startConvert 0) 3))).trace.getLast? = some (.drive .dq .low) := by decide
/-- STOP_CONVERT: bit 1 of 0x22 is 1 (R108: L H L L L H L L). -/
theorem test_stop_convert_command :
    (nextOf (exec (.stopConvert 0) (received (.stopConvert 0) 6 0x022))).trace.getLast? =
      some (.drive .dq .high) := by decide
/-- A sample the environment has fixed is ORed into its bit (R82) and used up; 32 is RXBIT(1) of READ_TEMP. -/
theorem test_sample_bit :
    (nextOf (exec (.readTemp 0) { midway (.readTemp 0) 32 with responder := [.high] })).sr = 0x002#9 ∧
      (nextOf (exec (.readTemp 0) { midway (.readTemp 0) 32 with responder := [.high] })).responder = [] := by decide
theorem test_sample_sets_bit_one :
    (rxBit 1 { State.reset with responder := [.high, .low] }).sr = 0x002#9 := by decide
theorem test_wait_event :
    (nextOf (exec (.writeTh 0) (midway (.writeTh 0) 54))).trace.getLast? = some (.wait 10) := by decide
theorem test_wait_blocks : (nextOf (exec (.writeTh 0) (midway (.writeTh 0) 54))).upc = 54 := by decide
theorem test_platform_ends_wait :
    (nextOf (step settling)).upc = 55 ∧ (nextOf (step settling)).trace = settling.trace := by decide
theorem test_program_lengths :
    [program Config.default (.readTemp 0), program Config.default (.writeTh 0), program Config.default (.writeConfig 1),
     program Config.default (.writeConfig 0), program Config.default (.startConvert 0)].map List.length =
      [58, 57, 111, 1, 29] := by decide

/-! ### The step, faults and refusals -/

theorem test_idle_step : nextOf (step State.reset) = State.reset := by decide
theorem test_accept_latches :
    (nextOf (step (State.reset.withFetchWord 24 0xABCD0))).operand = 0xABCD#16 := by decide
theorem test_accept_consumes : (nextOf (step (State.reset.withFetchWord 24 0x00029))).requests = [] := by decide
theorem test_reserved_sets_fault :
    nextOf (step (presented 0x1234F#20)) =
      { State.reset with
        fault := true
        done := true
        completions := [{ result := 0, status := 0, done := true, fault := true }] } := by decide
theorem test_busy_with_reserved_op_faults : faultsAs (step { midway (.readTemp 0) 0 with op := 0xB }) .noProgram = true := by
  decide
theorem test_past_end_faults : faultsAs (step (midway (.readTemp 0) 58)) .noMicroOperation = true := by decide
theorem test_other_operation_refused :
    refusedAs (exec (.readTh 0) (midway (.readTemp 0) 3)) .requestWhileBusy = true := by decide
theorem test_submit_refused : refusedAs (submit 0 (midway (.readTemp 0) 3)) .requestWhileBusy = true := by decide
theorem test_second_submit_refused : refusedAs (submit 5 (presented 9)) .requestPending = true := by decide
theorem test_host_plans : (hostPlans [8] (presented 5)).requests = [5, 8] := by decide
theorem test_primitive_refused_midway :
    refusedAs (sendCommand 0 receiving) .primitiveWhileBusy = true ∧
      refusedAs (endSession receiving) .primitiveWhileBusy = true := by decide
theorem test_construct_refused : refusedAs (construct { Config.default with clkId := 0 }) .channelsNotDistinct = true := by
  decide
theorem test_reconstruct_refused : refusedAs (reconstruct (midway (.readTemp 0) 0)) .constructWhileBusy = true := by decide
theorem test_end_refused : refusedAs (endSession State.reset) .endWithoutSession = true := by decide
theorem test_reset_is_no_good_end_after_fault : (nextOf (step (presented 0xB#20))).goodEnd = false := by decide

/-! ### The monitor refuses what the line protocol forbids -/

theorem test_monitor_accepts_begin_end : (monitor framingAtReset (beginEvents ++ endEvents)).isSome = true := by decide
theorem test_monitor_refuses_rst_before_clk :
    monitor framingAtReset [.drive .rst .low, .drive .rst .high] = none := by decide
theorem test_monitor_refuses_drive_while_input :
    monitor framingAtReset (beginEvents ++ [.dir .dq .input, .drive .dq .high]) = none := by decide
theorem test_monitor_refuses_change_while_clk_low :
    monitor framingAtReset (beginEvents ++ [.drive .clk .low, .drive .dq .high]) = none := by decide

/-! ### The assembler (30_encoding.md R67; 95_test_vectors.md Part 3) -/

theorem test_assemble_negative : assembleLine "WRITE_TH -10".toList = .ok (.writeTh 0xFFF6) := by decide
theorem test_assemble_hex_and_comment : assembleLine "WRITE_CONFIG 0x0002   ; REQ".toList = .ok (.writeConfig 2) := by
  decide
theorem test_assemble_program :
    (match assemble ["WRITE_CONFIG 0".toList, "  ; no mnemonic".toList, "READ_COUNTER".toList] with
      | .ok ws => ws
      | .error _ => []) = [0x00009#20, 0x00005#20] := by decide
theorem test_assemble_out_of_range : assembleLine "WRITE_TL 32768".toList = .error .badOperand := by decide
theorem test_assemble_operand_missing : assembleLine "WRITE_TH".toList = .error .operandMissing := by decide
theorem test_assemble_operand_not_allowed : assembleLine "READ_TEMP 1".toList = .error .operandNotAllowed := by decide

/-! ### Witnesses: for every statement with hypotheses, states and operands that meet them -/

theorem witness_OpCodeAloneSelects : 0xB ≤ (0xB#4).toNat ∧ 0xB ≤ (0xF#4).toNat := by decide
theorem witness_DecodeEncodeInverse : decodeWord 0xFFFFA#20 = .ok (.readConfig 0xFFFF) := by decide
theorem witness_AssemblerOperandRange :
    (decimalValue "32767".toList ≤ 32767 ∧ decimalValue "32768".toList ≤ 32768 ∧
        ∀ c ∈ "32768".toList, c ∈ "0123456789".toList) ∧
      32767 < decimalValue "32768".toList ∧ 32768 < decimalValue "032769".toList := by
  simp [decimalValue]
theorem witness_AssemblerOperandRange_words :
    parseOperand "-32768".toList = some 0x8000 ∧ parseOperand "0x8000".toList = some 0x8000 ∧
      (∀ c ∈ "32768".toList, c ≠ ' ' ∧ c ≠ '\t' ∧ c ≠ ';') ∧ parseOperand "32768".toList = none :=
  ⟨rfl, rfl, by simp, rfl⟩
theorem witness_AssemblerOperandRange_program :
    assembleLine "READ_SLOPE".toList = .ok (.readSlope 0) ∧
      (match assemble ["READ_TH".toList] with
        | .ok ws => ws
        | .error _ => []) = [0x00003#20] := by decide
theorem witness_StepRunsDecodedOperation :
    (receiving.busy = true ∧ decodeWord (reqWord receiving.operand receiving.op) = .ok (.readTemp 0)) ∧
      ((presented 0x00029#20).presents 0x00029#20 [] ∧ decodeWord 0x00029#20 = .ok (.writeConfig 2)) ∧
      decodeTableWord 24 0xFFFFA = some (.readConfig 0xFFFF) ∧
      State.reset.busy = false ∧ State.reset.requests = [] := by decide
theorem witness_EngineStepRule :
    ((presented 0x0000A#20).presents 0x0000A#20 [] ∧ ((0x0000A#20).extractLsb' 0 4).toNat < 0xB) ∧
      ((presented 0x0000B#20).presents 0x0000B#20 [] ∧ 0xB ≤ ((0x0000B#20).extractLsb' 0 4).toNat) ∧
      (program (midway (.readTemp 0) 57).cfg (.readTemp 0))[57]? = some (.post .temp) ∧ MicroOp.post .temp ≠ .wait ∧
      (program settling.cfg (.writeTh 0))[settling.upc]? = some .wait ∧ settling.waiting ≠ none ∧
      (midway (.writeTh 0) 54).waiting = none ∧
      0 < (program Config.default (.writeConfig 0)).length := by decide
theorem witness_IdleEngineAcceptsEveryOperation : State.reset.busy = false := by decide
theorem witness_MicroOperationEffects : (8 : BitIndex) ≠ 0 ∧ (1 : BitIndex) ≠ 0 := by decide
theorem witness_EveryMicroOperationCompletes :
    ((midway (.readTemp 0) 0).carryingOut (.readTemp 0) 0 ∧ (midway (.writeConfig 1) 110).carryingOut (.writeConfig 1) 110) ∧
      110 < (program Config.default (.writeConfig 1)).length ∧
      ((midway (.writeTh 0) 54).carryingOut (.writeTh 0) 54 ∧ (midway (.writeTh 0) 54).waiting = none) ∧
      settling.carryingOut (.writeTh 0) 54 ∧ settling.waiting ≠ none := by decide
theorem witness_PlatformEndsTheWait :
    settling.framed = true ∧ settling.waiting = some 10 ∧
      decodeWord (reqWord settling.operand settling.op) = .ok (.writeTh 0) := by decide
theorem witness_RequestWhileBusyRefused :
    receiving.busy = true ∧ ¬ (receiving.op = (Instr.readTh 0).opcode ∧ receiving.operand = (Instr.readTh 0).operand) ∧
      (State.reset.busy = false ∧ State.reset.requests = []) ∧ (presented 5).busy = false ∧
      (presented 5).requests ≠ [] := by decide
theorem witness_step_of_busy : ∃ t, receiving.busy = true ∧ step receiving = .next t := ⟨_, by decide, rfl⟩
theorem witness_OneLineEventPerStep : ∃ t, step receiving = .next t ∧ t.trace = receiving.trace ++ [.drive .clk .low] :=
  ⟨_, rfl, by decide⟩
theorem witness_ReservedOpRaisesFault :
    (presented (0xFFFF#16 ++ 0xB#4)).presents (0xFFFF#16 ++ 0xB#4) [] ∧
      0xB#4 ∈ [0xB#4, 0xC#4, 0xD#4, 0xE#4, 0xF#4] := by decide
theorem witness_FaultIsSticky :
    (∃ t, step { receiving with fault := true } = .next t ∧ t.fault = true) ∧
      ∃ t, (presented 0xF#20).fault = false ∧ step (presented 0xF#20) = .next t ∧ t.fault = true :=
  ⟨⟨_, rfl, by decide⟩, _, by decide, rfl, by decide⟩
theorem witness_ReadTempResult : (received (.readTemp 0xFFFF) 57 0x100).carryingOut (.readTemp 0xFFFF) 57 := by decide
theorem witness_ReadThresholdResult :
    (received (.readTh 0) 57 0x1FF).carryingOut (.readTh 0) 57 ∧ (received (.readTl 0) 57 0).carryingOut (.readTl 0) 57 := by
  decide
theorem witness_ReadRawResult :
    (received (.readCounter 0) 57 0x1FF).carryingOut (.readCounter 0) 57 ∧
      (received (.readSlope 0) 57 0).carryingOut (.readSlope 0) 57 := by decide
theorem witness_ReadConfigResult : (received (.readConfig 0) 57 0x1FF).carryingOut (.readConfig 0) 57 := by decide
theorem witness_WriteConfigVerifies :
    (0 < (1#16).toInt ∧ (received (.writeConfig 1) 110 0x001).carryingOut (.writeConfig 1) 110) ∧
      256 ≤ (256#16).toInt ∧ (received (.writeConfig 256) 110 0).carryingOut (.writeConfig 256) 110 ∧
      ∃ t, exec (.writeConfig 256) (received (.writeConfig 256) 110 0) = .next t :=
  ⟨by decide, by decide, by decide, _, rfl⟩
theorem witness_WriteConfigRejects :
    (0#16).toInt ≤ 0 ∧ (midway (.writeConfig 0) 0).carryingOut (.writeConfig 0) 0 ∧ (0x8000#16).toInt ≤ 0 := by decide
theorem witness_SilentPostsWriteNoRegister :
    (midway (.writeTh 0) 56).carryingOut (.writeTh 0) 56 ∧ (midway (.writeTl 0) 56).carryingOut (.writeTl 0) 56 ∧
      (midway (.startConvert 0) 28).carryingOut (.startConvert 0) 28 ∧
      (midway (.stopConvert 0) 28).carryingOut (.stopConvert 0) 28 := by decide
theorem witness_CommandBitsOnTheWire :
    (opensSession (.writeConfig 1) = true ∧ (midway (.writeConfig 1) 3).carryingOut (.writeConfig 1) (3 + 3 * 0)) ∧
      opensSession (.stopConvert 0) = true ∧ (7 : BitIndex).val < 8 ∧
      (received (.stopConvert 0) 24 0x022).carryingOut (.stopConvert 0) (3 + 3 * 7) ∧
      (received (.stopConvert 0) 24 0x022).sr = (firstCommand Config.default (.stopConvert 0)).setWidth 9 := by decide
theorem witness_ThresholdBitsOnTheWire :
    (midway (.writeTh 0xFFF6) 27).carryingOut (.writeTh 0xFFF6) (27 + 3 * 0) ∧
      (received (.writeTl 0xFFF6) 51 0x1EC).carryingOut (.writeTl 0xFFF6) (27 + 3 * 8) ∧
      (received (.writeTl 0xFFF6) 51 0x1EC).sr = BitVec.ofNat 9 ((2 * (0xFFF6#16).toNat) % 512) := by decide
theorem witness_ConfigPayloadOnTheWire :
    0 < (300#16).toInt ∧ (7 : BitIndex).val < 8 ∧
      (received (.writeConfig 300) 48 0x02C).carryingOut (.writeConfig 300) (27 + 3 * 7) ∧
      (received (.writeConfig 300) 48 0x02C).sr = BitVec.ofNat 9 ((300#16).toNat % 256) := by decide
theorem witness_ReadOperationsWhole :
    (presented 0xABCD0#20).presents 0xABCD0#20 [] ∧ decodeWord 0xABCD0#20 = .ok (.readTemp 0xABCD) ∧
      (readsAs (presented 0xABCD0#20).cfg (.readTemp 0xABCD)).isSome = true := by decide
theorem witness_ThresholdWritesWhole :
    ((presented 0xFFF61#20).presents 0xFFF61#20 [] ∧ (presented 0xFFF61#20).waiting = none) ∧ decodeWord 0xFFF61#20 = .ok (.writeTh 0xFFF6) ∧
      writesThreshold (presented 0xFFF61#20).cfg (.writeTh 0xFFF6) = some (0x01#8, 0xFFF6#16) := by decide
theorem witness_WriteConfigWhole :
    ((presented 0x00019#20).presents 0x00019#20 [] ∧ (presented 0x00019#20).waiting = none) ∧ decodeWord 0x00019#20 = .ok (.writeConfig 1) ∧ 0 < (1#16).toInt ∧
      (presented 0x00009#20).presents 0x00009#20 [] ∧ decodeWord 0x00009#20 = .ok (.writeConfig 0) ∧
      (0#16).toInt ≤ 0 := by decide
theorem witness_ConversionOperationsWhole :
    (presented 0x00007#20).presents 0x00007#20 [] ∧ decodeWord 0x00007#20 = .ok (.startConvert 0) ∧
      controlsConversion (presented 0x00007#20).cfg (.startConvert 0) = some 0xEE#8 := by decide
theorem witness_EveryOperationEnds : receiving.framed = true ∧ receiving.busy = true := by decide
theorem witness_OperationFrame :
    (∃ t, exec (.writeTh 0) (midway (.writeTh 0) 0) = .next t) ∧ (midway (.writeTh 0) 0).busy = true ∧
      readsAs Config.default (.writeTh 0) = none ∧ (∀ x, Instr.writeTh 0 ≠ .writeConfig x) ∧
      ∃ t, exec (.writeTh 0) State.reset = .next t :=
  ⟨⟨_, rfl⟩, by decide, rfl, nofun, _, rfl⟩
theorem witness_ResultWrittenOnlyByReads :
    ∃ t, step (received (.readTemp 0) 57 0x114) = .next t ∧ t.result ≠ (received (.readTemp 0) 57 0x114).result :=
  ⟨_, rfl, by decide⟩
theorem witness_StatusWrittenOnlyByWriteConfig :
    ∃ t, step (midway (.writeConfig 0) 0) = .next t ∧ t.status ≠ (midway (.writeConfig 0) 0).status :=
  ⟨_, rfl, by decide⟩
theorem witness_BusyAndDoneChange :
    (∃ t, step (presented 0xA#20) = .next t ∧ (presented 0xA#20).busy = false ∧ t.busy = true ∧
        (presented 0xA#20).presents 0xA#20 [] ∧ ((0xA#20).extractLsb' 0 4).toNat < 0xB) ∧
      (∃ t, step (midway (.writeConfig 0) 0) = .next t ∧ (midway (.writeConfig 0) 0).busy = true ∧ t.busy = false) ∧
      ∃ t, step (presented 0xB#20) = .next t ∧ t.done ≠ (presented 0xB#20).done ∧ (presented 0xB#20).busy = t.busy ∧
        (presented 0xB#20).presents 0xB#20 [] ∧ 0xB ≤ ((0xB#20).extractLsb' 0 4).toNat :=
  ⟨⟨_, rfl, by decide, by decide, by decide, by decide⟩, ⟨_, rfl, by decide, by decide⟩, _, rfl, by decide, by decide, by decide, by decide⟩
theorem witness_OperandIgnoredByEight : receiving.busy = true ∧ receiving.op ∉ [0x1#4, 0x2#4, 0x9#4] := by decide
theorem witness_ConstructionValues :
    Config.default.wellFormed = true ∧ { Config.default with clkId := 0 }.dqId = { Config.default with clkId := 0 }.clkId ∧
      { Config.default with rstId := 0 }.dqId = { Config.default with rstId := 0 }.rstId ∧
      { Config.default with rstId := 1 }.clkId = { Config.default with rstId := 1 }.rstId := by decide
theorem witness_ReconstructionOnlyWhileIdle : receiving.busy = true ∧ State.reset.busy = false := by decide
theorem witness_StepKeepsFraming :
    ∃ t, receiving.framed = true ∧ step receiving = .next t := ⟨_, by decide, rfl⟩
theorem witness_FramedStateSteps : receiving.framed = true ∧ State.reset.framed = true := by decide
theorem witness_FramedStateFacts :
    receiving.framed = true ∧ receiving.dqDir = .input ∧ receiving.session = .opened ∧ receiving.busy = true ∧
      (State.reset.framed = true ∧ State.reset.busy = false) ∧ settling.framed = true ∧ settling.waiting ≠ none := by
  decide
theorem witness_StepKeepsLineProtocol :
    ∃ t, receiving.framed = true ∧ receiving.traceLegal = true ∧ step receiving = .next t :=
  ⟨_, by decide, by decide, rfl⟩
theorem witness_StepKeepsLinesFromTrace :
    ∃ t, receiving.linesFromTrace = true ∧ step receiving = .next t := ⟨_, by decide, rfl⟩
theorem witness_CompletionsReportTheRegisters :
    ∃ t, (midway (.writeConfig 0) 0).status ≠ 3#2 ∧ step (midway (.writeConfig 0) 0) = .next t :=
  ⟨_, by decide, rfl⟩
theorem witness_SessionFraming :
    State.reset.session = .closed ∧ (receiving.session = .opened ∧ receiving.busy = true) ∧
      { State.reset with session := .opened }.busy = false := by decide
theorem witness_ReceptionFrame : 0 < 9 ∧ 8 < 9 := by decide
theorem witness_DecodeTempIsHalvedTwosComplement :
    (0x101#9).getLsbD 0 = true ∧ (0x101#9).getLsbD 8 = true := by decide
theorem witness_OddValuesTruncateTowardZero :
    ((0x001#9).getLsbD 8 = false ∧ (0x001#9).getLsbD 0 = true) ∧ (0x1FF#9).getLsbD 8 = true ∧
      (0x1FF#9).getLsbD 0 = true := by decide

end Sys2Proof.Tests
end

section
/-! SUPPORT. The scope's statements (00_scope.md R2, R10, R11): the line registers against the trace, the platform's end
of a wait, one line event a step, and host requests to a busy engine. -/

namespace Sys2Proof.Proofs

open Sys2Proof.Machine Sys2Proof.Laws

/-! ### The step of a busy engine -/

/-- All that a step of a busy engine can do when it goes on: the move of the latched operation at `UPC`. -/
theorem step_next_of_busy {s t : State} (hb : s.busy = true) (h : step s = .next t) :
    ∃ i m, decodeWord (reqWord s.operand s.op) = .ok i ∧ i.opcode = s.op ∧ i.operand = s.operand ∧
      (program s.cfg i)[s.upc]? = some m ∧ t = microMove m s := by
  obtain ⟨hf, -⟩ | ⟨hf, -⟩ | ⟨hf, -⟩ | ⟨-, hmove⟩ := step_next h
  · simp [hb] at hf
  · simp [hb] at hf
  · simp [hb] at hf
  · exact hmove

/-- A busy engine refuses every operation but the latched one. -/
theorem exec_busy_other {i : Instr} {s : State} (hb : s.busy = true)
    (hne : ¬ (s.op = i.opcode ∧ s.operand = i.operand)) : exec i s = .refused .requestWhileBusy := by
  rw [exec_eq, engineStep, if_pos hb, if_neg hne]

/-! ### `submit` -/

theorem submit_busy (w : Req) {s : State} (hb : s.busy = true) : submit w s = .refused .requestWhileBusy := by
  simp [submit, hb]

theorem submit_idle_of_none (w : Req) {s : State} (hb : s.busy = false) (hr : s.requests = []) :
    submit w s = .next { s with requests := [w] } := by
  simp [submit, hb, hr]

theorem submit_idle_of_pending (w : Req) {s : State} (hb : s.busy = false) (hr : s.requests ≠ []) :
    submit w s = .refused .requestPending := by
  simp [submit, hb, hr]

/-! ### The line registers as facts of the trace -/

/-- What `State.linesFromTrace` says, register by register. -/
theorem linesFromTrace_iff (s : State) :
    s.linesFromTrace = true ↔
      s.rstL = lastDriven .rst s.trace ∧ s.clkL = lastDriven .clk s.trace ∧ s.dqL = lastDriven .dq s.trace ∧
        s.dqDir = lastDirection s.trace ∧
        s.session = (if lastDriven .rst s.trace = .driven .high then .opened else .closed) := by
  simp [State.linesFromTrace, and_assoc]

@[simp] theorem accept_linesFromTrace (o : OpCode) (x : Operand) (s : State) :
    (accept o x s).linesFromTrace = s.linesFromTrace := rfl

@[simp] theorem raiseIllegalOp_linesFromTrace (o : OpCode) (s : State) :
    (raiseIllegalOp o s).linesFromTrace = s.linesFromTrace := rfl

@[simp] theorem advance_linesFromTrace (s : State) : (advance s).linesFromTrace = s.linesFromTrace := rfl

@[simp] theorem platformEndsWait_linesFromTrace (s : State) :
    (platformEndsWait s).linesFromTrace = s.linesFromTrace := rfl

@[simp] theorem post_linesFromTrace (p : Post) (s : State) : (post p s).linesFromTrace = s.linesFromTrace := by
  cases p <;> rfl

/-- A drive puts the level into its line's register and, on RST, its meaning into `SESSION`. -/
theorem drv_linesFromTrace (l : Line) (v : Level) {s : State} (h : s.linesFromTrace = true) :
    (drv l v s).linesFromTrace = true := by
  rw [linesFromTrace_iff] at h ⊢
  cases l <;> cases v <;> simp [h]

/-- To the lines a sent bit is a drive of DQ. -/
@[simp] theorem txBit_linesFromTrace (f : Raw) (i : BitIndex) (s : State) :
    (txBit f i s).linesFromTrace = (drv .dq (levelOf ((txLoad f i s.sr).getLsbD i.val)) s).linesFromTrace := rfl

/-- A wait neither drives a line nor turns one. -/
theorem issueWait_linesFromTrace {s : State} (h : s.linesFromTrace = true) :
    (issueWait s).linesFromTrace = true := by
  rw [linesFromTrace_iff] at h ⊢
  simp [h]

theorem microStep_linesFromTrace (m : MicroOp) {s : State} (h : s.linesFromTrace = true) :
    (microStep m s).linesFromTrace = true := by
  cases m with
  | drv l v => exact drv_linesFromTrace l v h
  | txBit f i => exact (txBit_linesFromTrace f i s).trans (drv_linesFromTrace _ _ h)
  | rxBegin | rxBit i | rxEnd =>
    rw [linesFromTrace_iff] at h ⊢
    simp [microStep, h]
  | wait => exact (platformEndsWait_linesFromTrace _).trans (issueWait_linesFromTrace h)
  | post p => exact (post_linesFromTrace p s).trans h

theorem microMove_linesFromTrace (m : MicroOp) {s : State} (h : s.linesFromTrace = true) :
    (microMove m s).linesFromTrace = true := by
  obtain ⟨-, hmove⟩ | ⟨-, -, hmove⟩ | ⟨-, -, hmove⟩ := microMove_cases m s
  · rw [hmove, advance_linesFromTrace, microStep_linesFromTrace m h]
  · rw [hmove, issueWait_linesFromTrace h]
  · rw [hmove, advance_linesFromTrace, platformEndsWait_linesFromTrace, h]

/-- Settles O43: outside the busy step no register of a line and no event changes; in it, every micro-operation keeps
the registers to its event. -/
theorem stepKeepsLinesFromTrace : Obligations.StepKeepsLinesFromTrace := by
  unfold Obligations.StepKeepsLinesFromTrace
  intro s t hs h
  obtain ⟨-, -, rfl⟩ | ⟨-, -, -, i, -, -, rfl⟩ | ⟨-, w, -, -, -, rfl⟩ | ⟨-, -, m, -, -, -, -, rfl⟩ := step_next h
  · exact hs
  · rw [accept_linesFromTrace, hs]
  · rw [raiseIllegalOp_linesFromTrace, hs]
  · exact microMove_linesFromTrace m hs

/-! ### Framed states -/

/-- What `State.framed` says of a busy state. -/
theorem framed_busy {s : State} (hf : s.framed = true) (hb : s.busy = true) :
    ∃ i, decodeWord (reqWord s.operand s.op) = .ok i ∧ s.upc < (program s.cfg i).length ∧
      (s.waiting = none ∨ (program s.cfg i)[s.upc]? = some .wait) ∧
      ∃ f, (f = framingAtReset ∨ f = framingIdle) ∧ s.framing = f.afterAll ((program s.cfg i).take s.upc) := by
  unfold State.framed at hf
  cases hd : decodeWord (reqWord s.operand s.op) with
  | error e => simp [hb, hd] at hf
  | ok i =>
    simp only [hb, hd, if_true, Bool.and_eq_true, Bool.or_eq_true, decide_eq_true_eq, beq_iff_eq,
      Option.isNone_iff_eq_none] at hf
    obtain ⟨⟨hupc, hwait⟩, hframing⟩ := hf
    exact ⟨i, rfl, hupc, hwait, hframing.elim (fun h => ⟨_, .inl rfl, h⟩) fun h => ⟨_, .inr rfl, h⟩⟩

/-- What `State.framed` says of an idle state. -/
theorem framed_idle {s : State} (hf : s.framed = true) (hb : s.busy = false) :
    s.waiting = none ∧ (s.framing = framingAtReset ∨ s.framing = framingIdle) := by
  simpa [State.framed, hb] using hf

/-- A wait outstanding in a framed state is that of the `WAIT` at `UPC`. -/
theorem framed_waiting {s : State} {ms : Nat} (hf : s.framed = true) (hw : s.waiting = some ms) :
    s.busy = true ∧ ∃ i, decodeWord (reqWord s.operand s.op) = .ok i ∧ (program s.cfg i)[s.upc]? = some .wait ∧
      ∃ f : Framing, s.framing = f.afterAll ((program s.cfg i).take s.upc) := by
  cases hb : s.busy with
  | false =>
    obtain ⟨hnone, -⟩ := framed_idle hf hb
    simp [hw] at hnone
  | true =>
    obtain ⟨i, hd, -, hwait, f, -, hframing⟩ := framed_busy hf hb
    exact ⟨rfl, i, hd, hwait.resolve_left (by simp [hw]), f, hframing⟩

/-! ### Where a `WAIT` stands in a micro-program -/

theorem wait_not_mem_tx (n : Nat) (f : Raw) : MicroOp.wait ∉ tx n f := by
  simp [tx]

theorem wait_not_mem_rx9 : MicroOp.wait ∉ rx9 := by decide

theorem wait_not_mem_readProgram (c : Command) (p : Post) : MicroOp.wait ∉ readProgram c p := by
  simp [readProgram, beginBlock, tx8, wait_not_mem_tx, wait_not_mem_rx9, endBlock]

theorem wait_not_mem_commandProgram (c : Command) : MicroOp.wait ∉ commandProgram c := by
  simp [commandProgram, beginBlock, tx8, wait_not_mem_tx, endBlock]

/-! ### The session at a `WAIT` -/

/-- Only a drive of RST opens or closes a session. -/
theorem after_session {m : MicroOp} (h : m.drives .rst = false) (f : Framing) : (f.after m).session = f.session := by
  cases m with
  | drv l v => cases l <;> simp_all [MicroOp.drives, Framing.after]
  | _ => rfl

theorem afterAll_session {ms : List MicroOp} (h : ∀ m ∈ ms, m.drives .rst = false) (f : Framing) :
    (f.afterAll ms).session = f.session := by
  induction ms generalizing f with
  | nil => rfl
  | cons m ms ih =>
    obtain ⟨hm, hms⟩ := List.forall_mem_cons.mp h
    exact (ih hms (f.after m)).trans (after_session hm f)

/-- Sending drives DQ and CLK alone. -/
theorem tx_drives_rst (n : Nat) (v : Raw) : ∀ m ∈ tx n v, m.drives .rst = false := by
  intro m hm
  obtain ⟨i, -, rfl | rfl | rfl⟩ : ∃ i ∈ bitIndexes.take n,
      m = .txBit v i ∨ m = .drv .clk .low ∨ m = .drv .clk .high := by simpa [tx] using hm
  all_goals rfl

@[simp] theorem afterAll_tx_session (n : Nat) (v : Raw) (f : Framing) :
    (f.afterAll (tx n v)).session = f.session :=
  afterAll_session (tx_drives_rst n v) f

/-- Wherever the program waits, a session is open and its END comes next (40_primitives.md R83). -/
def WaitsBeforeEnd (prog : List MicroOp) : Prop :=
  ∀ k, prog[k]? = some .wait →
    prog[k + 1]? = some (.drv .rst .low) ∧ ∀ f : Framing, (f.afterAll (prog.take k)).session = .opened

theorem waitsBeforeEnd_of_not_mem {prog : List MicroOp} (h : .wait ∉ prog) : WaitsBeforeEnd prog :=
  fun _ hk => absurd (List.mem_of_getElem? hk) h

/-- The index of an element that a list holds once. -/
theorem index_eq_length {pre rest : List MicroOp} {m : MicroOp} {k : Nat} (hpre : m ∉ pre) (hrest : m ∉ rest)
    (h : (pre ++ m :: rest)[k]? = some m) : k = pre.length := by
  obtain hlt | rfl | hgt := Nat.lt_trichotomy k pre.length
  · rw [List.getElem?_append_left hlt] at h
    exact absurd (List.mem_of_getElem? h) hpre
  · rfl
  · rw [List.getElem?_append_right hgt.le, List.getElem?_cons, if_neg (by omega)] at h
    exact absurd (List.mem_of_getElem? h) hrest

/-- A session that sends two frames, waits and ends, with no other wait after it. -/
theorem waitsBeforeEnd_writeSession (n : Nat) (v w : Raw) {rest : List MicroOp} (hrest : .wait ∉ rest) :
    WaitsBeforeEnd ((beginBlock ++ tx 8 v ++ tx n w) ++ .wait :: .drv .rst .low :: rest) := by
  intro k hk
  have hpre : MicroOp.wait ∉ beginBlock ++ tx 8 v ++ tx n w := by simp [beginBlock, wait_not_mem_tx]
  obtain rfl := index_eq_length hpre (by simpa using hrest) hk
  constructor
  · rw [List.getElem?_append_right (Nat.le_succ _)]
    simp
  · intro f
    rw [List.take_left, afterAll_append, afterAll_append, afterAll_tx_session, afterAll_tx_session]
    rfl

theorem waitsBeforeEnd_writeThresholdProgram (c : Command) (x : Operand) :
    WaitsBeforeEnd (writeThresholdProgram c x) :=
  waitsBeforeEnd_writeSession 9 (frame8 c) (encodeTh x) (rest := [.post .nothing]) (by simp)

theorem waitsBeforeEnd_writeConfigProgram (c d : Command) (x : Operand) :
    WaitsBeforeEnd (writeConfigProgram c d x) := by
  obtain hx | hx := le_or_gt x.toInt 0
  · rw [writeConfigProgram_rejected c d hx]
    exact waitsBeforeEnd_of_not_mem (by simp)
  · rw [writeConfigProgram_accepted c d hx]
    have hrest : MicroOp.wait ∉ beginBlock ++ tx8 d ++ rx9 ++ endBlock ++ [.post .verify] := by
      simp [beginBlock, tx8, wait_not_mem_tx, wait_not_mem_rx9, endBlock]
    simpa [tx8, settleBlock, endBlock] using
      waitsBeforeEnd_writeSession 8 (frame8 c) (frame8 (cfgPayload x)) hrest

theorem waitsBeforeEnd_program (c : Config) (i : Instr) : WaitsBeforeEnd (program c i) := by
  cases i with
  | readTemp | readTh | readTl | readCounter | readSlope | readConfig =>
    exact waitsBeforeEnd_of_not_mem (wait_not_mem_readProgram _ _)
  | writeTh | writeTl => exact waitsBeforeEnd_writeThresholdProgram _ _
  | startConvert | stopConvert => exact waitsBeforeEnd_of_not_mem (wait_not_mem_commandProgram _)
  | writeConfig => exact waitsBeforeEnd_writeConfigProgram _ _ _

/-- Settles O10: in a framed state the wait is that of the `WAIT` at `UPC`, which every program places in a session just
before its END, and the platform's move there only ends it. -/
theorem platformEndsTheWait : Obligations.PlatformEndsTheWait := by
  unfold Obligations.PlatformEndsTheWait
  intro s ms hf hw
  obtain ⟨hb, i, hd, hwait, f, hframing⟩ := framed_waiting hf hw
  obtain ⟨hend, hopen⟩ := waitsBeforeEnd_program s.cfg i s.upc hwait
  refine ⟨hb, ?_, ?_, ?_⟩
  · exact (congrArg Framing.session hframing).trans (hopen f)
  · rw [step_move hb hd hwait, microMove_wait_end hw]
    rfl
  · intro j hj
    obtain rfl : i = j := by simpa [hd] using hj
    exact ⟨hwait, hend⟩

/-! ### One line event a step; requests to a busy engine -/

/-- Settles O12: only the busy step's move touches the trace, and it issues at most one line event. -/
theorem oneLineEventPerStep : Obligations.OneLineEventPerStep := by
  unfold Obligations.OneLineEventPerStep
  intro s t h
  obtain ⟨-, -, rfl⟩ | ⟨-, -, -, i, -, -, rfl⟩ | ⟨-, w, -, -, -, rfl⟩ | ⟨-, -, m, -, -, -, -, rfl⟩ := step_next h
  · exact .inl rfl
  · exact .inl (accept_trace _ _ s)
  · exact .inl (raiseIllegalOp_trace _ s)
  · exact microMove_trace m s

/-- Settles O11: `exec` and `submit` ask for an idle engine, and no micro-operation reaches the host's requests. -/
theorem requestWhileBusyRefused : Obligations.RequestWhileBusyRefused := by
  unfold Obligations.RequestWhileBusyRefused
  refine ⟨fun i s => exec_busy_other, fun w s => submit_busy w, fun w s => submit_idle_of_none w,
    fun w s => submit_idle_of_pending w, ?_⟩
  intro s t hb h
  obtain ⟨-, m, -, -, -, -, rfl⟩ := step_next_of_busy hb h
  exact microMove_requests m s

end Sys2Proof.Proofs
end

section
/-! SUPPORT. The engine's invariants (10_state.md R28, R37): the framing and the line protocol along a micro-program,
both kept by every step, and what they say of a framed state. -/

namespace Sys2Proof.Proofs

open Sys2Proof.Machine Sys2Proof.Laws

/-! ### The line protocol along a list of micro-operations -/

/-- The line events a micro-operation can issue (40_primitives.md R70). -/
def Issues (m : MicroOp) (e : Event) : Prop :=
  match m with
  | .drv l v => e = .drive l v
  | .txBit _ _ => ∃ v, e = .drive .dq v
  | .rxBegin => e = .dir .dq .input
  | .rxBit _ => ∃ b, e = .sample b
  | .rxEnd => e = .dir .dq .output
  | .wait => ∃ ms, e = .wait ms
  | .post _ => False

theorem issueWait_issues (s : State) : ∃ e, Issues .wait e ∧ (issueWait s).trace = s.trace ++ [e] :=
  ⟨_, ⟨_, rfl⟩, rfl⟩

/-- What a micro-operation other than a POST adds to the trace. -/
theorem microStep_issues {m : MicroOp} (hm : ∀ p, m ≠ .post p) (s : State) :
    ∃ e, Issues m e ∧ (microStep m s).trace = s.trace ++ [e] := by
  cases m with
  | drv | rxBegin | rxEnd => exact ⟨_, rfl, rfl⟩
  | txBit | rxBit => exact ⟨_, ⟨_, rfl⟩, rfl⟩
  | wait => exact issueWait_issues s
  | post p => exact absurd rfl (hm p)

/-- The micro-operation is no POST, and the monitor allows its event and follows it as the registers do. -/
def Allows (f : Framing) (m : MicroOp) : Prop :=
  (∀ p, m ≠ .post p) ∧ ∀ e, Issues m e → f.onEvent e = some (f.after m)

/-- The micro-operations keep to the line protocol from one framing and lead to another. -/
inductive Leads : Framing → List MicroOp → Framing → Prop
  | nil (f : Framing) : Leads f [] f
  | cons {f g : Framing} {m : MicroOp} {ms : List MicroOp} (hm : Allows f m) (hms : Leads (f.after m) ms g) :
      Leads f (m :: ms) g

theorem Leads.append {f g h : Framing} {ms ns : List MicroOp} (hms : Leads f ms g) (hns : Leads g ns h) :
    Leads f (ms ++ ns) h := by
  induction hms with
  | nil => exact hns
  | cons hm _ ih => exact .cons hm (ih hns)

theorem Leads.afterAll_eq {f g : Framing} {ms : List MicroOp} (h : Leads f ms g) : f.afterAll ms = g := by
  induction h with
  | nil => rfl
  | cons _ _ ih => exact ih

theorem Leads.take {f g : Framing} {ms : List MicroOp} (h : Leads f ms g) (k : Nat) :
    Leads f (ms.take k) (f.afterAll (ms.take k)) := by
  induction h generalizing k with
  | nil => simpa using Leads.nil _
  | cons hm _ ih =>
    cases k with
    | zero => exact .nil _
    | succ k => exact .cons hm (ih k)

/-- Each micro-operation is allowed where it stands. -/
theorem Leads.allows {f g : Framing} {ms : List MicroOp} (h : Leads f ms g) {k : Nat} {m : MicroOp}
    (hk : ms[k]? = some m) : Allows (f.afterAll (ms.take k)) m := by
  induction h generalizing k with
  | nil => simp at hk
  | cons hm _ ih =>
    cases k with
    | zero =>
      obtain rfl := Option.some.inj hk
      exact hm
    | succ k => exact ih hk

theorem Leads.post_not_mem {f g : Framing} {ms : List MicroOp} (h : Leads f ms g) (p : Post) : .post p ∉ ms := by
  intro hp
  obtain ⟨k, hk⟩ := List.getElem?_of_mem hp
  exact (h.allows hk).1 p rfl

/-- A block for each bit that leads back to where it began. -/
theorem leads_flatMap {f : Framing} {block : BitIndex → List MicroOp} (h : ∀ i, Leads f (block i) f)
    (is : List BitIndex) : Leads f (is.flatMap block) f := by
  induction is with
  | nil => exact .nil f
  | cons i is ih => exact (h i).append ih

/-! ### The blocks -/

/-- The framing inside a session, CLK parked high and DQ an output. -/
def framingOpen : Framing :=
  { rst := .driven .high, clk := .driven .high, session := .opened, dqDir := .output }

/-- The framing inside a reception, CLK parked high. -/
def framingReceiving : Framing := { framingOpen with dqDir := .input }

/-- The framing is one of the two between operations. -/
def BetweenOperations (f : Framing) : Prop := f = framingAtReset ∨ f = framingIdle

/-- A drive is allowed where the monitor allows its one event and follows it. -/
theorem allows_drv {f : Framing} {l : Line} {v : Level} (h : f.onEvent (.drive l v) = some (f.after (.drv l v))) :
    Allows f (.drv l v) :=
  ⟨by simp, by rintro _ rfl; exact h⟩

theorem leads_beginBlock {f : Framing} (hf : BetweenOperations f) : Leads f beginBlock framingOpen := by
  obtain rfl | rfl := hf
  all_goals exact .cons (allows_drv rfl) (.cons (allows_drv rfl) (.cons (allows_drv rfl) (.nil _)))

theorem leads_endBlock : Leads framingOpen endBlock framingIdle :=
  .cons (allows_drv rfl) (.nil _)

theorem leads_tx (n : Nat) (v : Raw) : Leads framingOpen (tx n v) framingOpen := by
  refine leads_flatMap (fun i => ?_) _
  have hbit : Allows framingOpen (.txBit v i) := ⟨by simp, by rintro _ ⟨_, rfl⟩; rfl⟩
  exact .cons hbit (.cons (allows_drv rfl) (.cons (allows_drv rfl) (.nil _)))

theorem leads_rx9 : Leads framingOpen rx9 framingOpen := by
  have hbegin : Allows framingOpen .rxBegin := ⟨by simp, by rintro _ rfl; rfl⟩
  have hlow : Allows framingReceiving (.drv .clk .low) := allows_drv rfl
  have hbit (i : BitIndex) : Allows (framingReceiving.after (.drv .clk .low)) (.rxBit i) :=
    ⟨by simp, by rintro _ ⟨_, rfl⟩; rfl⟩
  have hend : Allows framingReceiving .rxEnd := ⟨by simp, by rintro _ rfl; rfl⟩
  have hbits : Leads framingReceiving (bitIndexes.flatMap fun i => [.drv .clk .low, .rxBit i, .drv .clk .high])
      framingReceiving :=
    leads_flatMap (fun i => .cons hlow (.cons (hbit i) (.cons (allows_drv rfl) (.nil _)))) _
  exact (Leads.cons hbegin hbits).append (.cons hend (.nil _))

theorem leads_settleBlock : Leads framingOpen settleBlock framingOpen :=
  .cons ⟨by simp, by rintro _ ⟨_, rfl⟩; rfl⟩ (.nil _)

/-! ### The sessions of the micro-programs -/

theorem leads_readSession {f : Framing} (hf : BetweenOperations f) (c : Command) :
    Leads f (beginBlock ++ tx8 c ++ rx9 ++ endBlock) framingIdle :=
  (((leads_beginBlock hf).append (leads_tx 8 _)).append leads_rx9).append leads_endBlock

theorem leads_writeSession {f : Framing} (hf : BetweenOperations f) (c : Command) (n : Nat) (v : Raw) :
    Leads f (beginBlock ++ tx8 c ++ tx n v ++ settleBlock ++ endBlock) framingIdle :=
  ((((leads_beginBlock hf).append (leads_tx 8 _)).append (leads_tx n v)).append leads_settleBlock).append leads_endBlock

theorem leads_commandSession {f : Framing} (hf : BetweenOperations f) (c : Command) :
    Leads f (beginBlock ++ tx8 c ++ endBlock) framingIdle :=
  ((leads_beginBlock hf).append (leads_tx 8 _)).append leads_endBlock

/-- The post-processing of an operation (40_primitives.md R72). -/
def postOf (i : Instr) : Post :=
  match i with
  | .readTemp _ => .temp
  | .readTh _ | .readTl _ => .thresh
  | .readCounter _ | .readSlope _ => .raw9
  | .readConfig _ => .cfg
  | .writeConfig x => if configRejected x then .reject else .verify
  | .writeTh _ | .writeTl _ | .startConvert _ | .stopConvert _ => .nothing

/-- A micro-program is line operations that keep to the protocol and lead from between operations to there again, and
its POST. -/
theorem program_shape (c : Config) (i : Instr) {f : Framing} (hf : BetweenOperations f) :
    ∃ ops g, program c i = ops ++ [.post (postOf i)] ∧ Leads f ops g ∧ BetweenOperations g := by
  cases i with
  | readTemp | readTh | readTl | readCounter | readSlope | readConfig =>
    exact ⟨_, _, rfl, leads_readSession hf _, .inr rfl⟩
  | writeTh x | writeTl x => exact ⟨_, _, rfl, leads_writeSession hf _ 9 (encodeTh x), .inr rfl⟩
  | startConvert | stopConvert => exact ⟨_, _, rfl, leads_commandSession hf _, .inr rfl⟩
  | writeConfig x =>
    obtain hx | hx := le_or_gt x.toInt 0
    · refine ⟨[], f, ?_, .nil f, hf⟩
      simp [program, progWriteConfig, writeConfigProgram_rejected _ _ hx, postOf, configRejected, hx]
    · refine ⟨_, _, ?_, (leads_writeSession hf c.cmdWriteConfig 8 (frame8 (cfgPayload x))).append
        (leads_readSession (.inr rfl) c.cmdReadConfig), .inr rfl⟩
      simp [program, progWriteConfig, writeConfigProgram_accepted _ _ hx, postOf, configRejected, hx,
        tx8, List.append_assoc]

/-- A POST in a micro-program is its last entry, the operation's own. -/
theorem post_in_program {c : Config} {i : Instr} {k : Nat} {p : Post} (h : (program c i)[k]? = some (.post p)) :
    k + 1 = (program c i).length ∧ p = postOf i := by
  obtain ⟨ops, g, hprog, hops, -⟩ := program_shape c i (f := framingAtReset) (.inl rfl)
  rw [hprog] at h ⊢
  have hp : p = postOf i := by
    have hmem := List.mem_of_getElem? h
    simpa [hops.post_not_mem p] using hmem
  subst hp
  have hk := index_eq_length (hops.post_not_mem _) (List.not_mem_nil) h
  simp [hk]

/-- Every other micro-operation has a next one in its program. -/
theorem program_next {c : Config} {i : Instr} {k : Nat} {m : MicroOp} (h : (program c i)[k]? = some m)
    (hm : ∀ p, m ≠ .post p) : k + 1 < (program c i).length := by
  obtain ⟨ops, g, hprog, -⟩ := program_shape c i (f := framingAtReset) (.inl rfl)
  rw [hprog] at h ⊢
  have hlt : k < ops.length := by
    by_contra hge
    rw [List.getElem?_append_right (by omega)] at h
    obtain rfl : m = .post (postOf i) := by simpa using List.mem_of_getElem? h
    exact hm _ rfl
  simpa using hlt

theorem program_length_pos (c : Config) (i : Instr) : 0 < (program c i).length := by
  obtain ⟨ops, g, hprog, -⟩ := program_shape c i (f := framingAtReset) (.inl rfl)
  simp [hprog]

/-- Before its POST a micro-program has led from between operations to there again. -/
theorem program_ends_between {c : Config} {i : Instr} {k : Nat} {f : Framing} (hf : BetweenOperations f)
    (hk : k + 1 = (program c i).length) : BetweenOperations (f.afterAll ((program c i).take k)) := by
  obtain ⟨ops, g, hprog, hops, hg⟩ := program_shape c i hf
  have hlen : k = ops.length := by simpa [hprog] using hk
  rwa [hprog, hlen, List.take_left, hops.afterAll_eq]

/-- Inside its micro-program an operation has kept to the line protocol so far. -/
theorem program_leads {c : Config} {i : Instr} {k : Nat} {f : Framing} (hf : BetweenOperations f)
    (hk : k < (program c i).length) :
    Leads f ((program c i).take k) (f.afterAll ((program c i).take k)) := by
  obtain ⟨ops, g, hprog, hops, -⟩ := program_shape c i hf
  have hle : k ≤ ops.length := by simpa [hprog, Nat.lt_succ_iff] using hk
  rw [hprog, List.take_append_of_le_length hle]
  exact hops.take k

/-- Every micro-operation but the POST is allowed where it stands in its micro-program. -/
theorem program_allows {c : Config} {i : Instr} {k : Nat} {m : MicroOp} {f : Framing} (hf : BetweenOperations f)
    (h : (program c i)[k]? = some m) (hm : ∀ p, m ≠ .post p) :
    Allows (f.afterAll ((program c i).take k)) m := by
  have hk := program_next h hm
  obtain ⟨ops, g, hprog, hops, -⟩ := program_shape c i hf
  have hlt : k < ops.length := by simpa [hprog] using hk
  rw [hprog, List.getElem?_append_left hlt] at h
  rw [hprog, List.take_append_of_le_length hlt.le]
  exact hops.allows h

/-! ### Every step keeps the framing -/

theorem framed_of_idle {s : State} (hb : s.busy = false) (hw : s.waiting = none) (hf : BetweenOperations s.framing) :
    s.framed = true := by
  simpa [State.framed, hb, hw, BetweenOperations] using hf

theorem framed_of_busy {s : State} {i : Instr} {f : Framing} (hb : s.busy = true)
    (hd : decodeWord (reqWord s.operand s.op) = .ok i) (hupc : s.upc < (program s.cfg i).length)
    (hwait : s.waiting = none ∨ (program s.cfg i)[s.upc]? = some .wait) (hf : BetweenOperations f)
    (hframing : s.framing = f.afterAll ((program s.cfg i).take s.upc)) : s.framed = true := by
  simp only [State.framed, hb, hd, if_true, Bool.and_eq_true, Bool.or_eq_true, decide_eq_true_eq, beq_iff_eq,
    Option.isNone_iff_eq_none]
  refine ⟨⟨hupc, hwait⟩, ?_⟩
  obtain rfl | rfl := hf
  · exact .inl hframing
  · exact .inr hframing

/-- An idle framed state stays framed when an operation is accepted. -/
theorem accept_framed {s : State} (i : Instr) (hf : s.framed = true) (hb : s.busy = false) :
    (accept i.opcode i.operand s).framed = true := by
  obtain ⟨hw, hbetween⟩ := framed_idle hf hb
  have hd : decodeWord (reqWord i.operand i.opcode) = .ok i := by rw [decodeWord_reqWord, decodeFields_opcode]
  exact framed_of_busy (i := i) rfl hd (program_length_pos _ i) (.inl hw) hbetween rfl

/-- All that a move can be to the framing invariant: the wait is issued and `UPC` stays; or the micro-operation is over
and has had its effect on the framing. -/
theorem microMove_framing (m : MicroOp) (s : State) :
    (m = .wait ∧ microMove m s = issueWait s) ∨
      ((microMove m s).upc = s.upc + 1 ∧ (microMove m s).framing = s.framing.after m ∧
        (s.waiting = none ∨ m = .wait → (microMove m s).waiting = none)) := by
  obtain ⟨hne, hmove⟩ | ⟨hm, -, hmove⟩ | ⟨rfl, -, hmove⟩ := microMove_cases m s
  · refine .inr ⟨by simp [hmove], by rw [hmove, advance_framing, microStep_framing], fun hw => ?_⟩
    rw [hmove]
    exact microStep_waiting m (hw.resolve_right hne)
  · exact .inl ⟨hm, hmove⟩
  · rw [hmove]
    exact .inr ⟨rfl, rfl, fun _ => rfl⟩

theorem microMove_framed {s : State} {i : Instr} {m : MicroOp} (hf : s.framed = true) (hb : s.busy = true)
    (hd : decodeWord (reqWord s.operand s.op) = .ok i) (hm : (program s.cfg i)[s.upc]? = some m) :
    (microMove m s).framed = true := by
  obtain ⟨j, hj, hupc, hwait, f, hbetween, hframing⟩ := framed_busy hf hb
  obtain rfl : i = j := by simpa [hd] using hj
  obtain ⟨rfl, hmove⟩ | ⟨hnext, hafter, hw⟩ := microMove_framing m s
  · rw [hmove]
    exact framed_of_busy (i := i) hb hd hupc (.inr hm) hbetween hframing
  have hw : (microMove m s).waiting = none := hw (hwait.imp_right (by simpa [hm] using ·))
  rw [hframing] at hafter
  obtain hbusy | ⟨p, rfl, hmove⟩ := microMove_busy m s
  · have hpost : ∀ p, m ≠ .post p := by
      rintro p rfl
      simp [microMove, microStep, post, hb] at hbusy
    refine framed_of_busy (i := i) (hbusy.trans hb) (by simpa using hd) ?_ (.inl hw) hbetween ?_
    · simpa [hnext] using program_next hm hpost
    · rw [hafter, hnext, microMove_cfg, afterAll_take_succ hm]
  · refine framed_of_idle (by rw [hmove]; rfl) hw ?_
    rw [hafter]
    exact program_ends_between hbetween (post_in_program hm).1

/-- Settles O39: ACCEPT starts a micro-program between operations, each move takes its framing one micro-operation on,
and the POST finds it between operations again. -/
theorem stepKeepsFraming : Obligations.StepKeepsFraming := by
  unfold Obligations.StepKeepsFraming
  intro s t hf h
  obtain ⟨-, -, rfl⟩ | ⟨hb, -, -, i, -, -, rfl⟩ | ⟨hb, w, -, -, -, rfl⟩ | ⟨hb, i, m, hd, -, -, hm, rfl⟩ := step_next h
  · exact hf
  · exact accept_framed i hf hb
  · obtain ⟨hw, hbetween⟩ := framed_idle hf hb
    exact framed_of_idle hb hw hbetween
  · exact microMove_framed hf hb hd hm

/-! ### Every step keeps to the line protocol -/

/-- A legal trace is construction's events and a list of events that the monitor leads to the registers' framing. -/
theorem traceLegal_iff (s : State) :
    s.traceLegal = true ↔
      ∃ es, s.trace = constructionEvents ++ es ∧ monitor framingAtReset es = some s.framing := by
  simp only [State.traceLegal, Bool.and_eq_true, beq_iff_eq]
  constructor
  · rintro ⟨hstart, hrest⟩
    exact ⟨_, by rw [← hstart, List.take_append_drop], hrest⟩
  · rintro ⟨es, htrace, hes⟩
    rw [htrace]
    exact ⟨rfl, hes⟩

/-- A trace stays legal by an event that the monitor follows as the registers do. -/
theorem traceLegal_snoc {s t : State} {e : Event} (hs : s.traceLegal = true) (htrace : t.trace = s.trace ++ [e])
    (hnext : s.framing.onEvent e = some t.framing) : t.traceLegal = true := by
  rw [traceLegal_iff] at hs ⊢
  obtain ⟨es, hprefix, hes⟩ := hs
  exact ⟨es ++ [e], by rw [htrace, hprefix, List.append_assoc], by rw [monitor_snoc hes, hnext]⟩

/-- A trace stays legal where neither it nor the framing changes. -/
theorem traceLegal_congr {s t : State} (hs : s.traceLegal = true) (htrace : t.trace = s.trace)
    (hframing : t.framing = s.framing) : t.traceLegal = true := by
  rwa [State.traceLegal, htrace, hframing]

/-- The micro-operation at `UPC` of a framed state is a POST or is allowed there. -/
theorem framed_allows {s : State} {i : Instr} {m : MicroOp} (hf : s.framed = true) (hb : s.busy = true)
    (hd : decodeWord (reqWord s.operand s.op) = .ok i) (hm : (program s.cfg i)[s.upc]? = some m)
    (hpost : ∀ p, m ≠ .post p) : Allows s.framing m := by
  obtain ⟨j, hj, -, -, f, hbetween, hframing⟩ := framed_busy hf hb
  obtain rfl : i = j := by simpa [hd] using hj
  rw [hframing]
  exact program_allows hbetween hm hpost

theorem microMove_traceLegal {s : State} {m : MicroOp} (hs : s.traceLegal = true)
    (hallows : (∀ p, m ≠ .post p) → Allows s.framing m) : (microMove m s).traceLegal = true := by
  by_cases hpost : ∃ p, m = .post p
  · obtain ⟨p, rfl⟩ := hpost
    exact traceLegal_congr hs (by simp [microMove, microStep, post]) (microStep_framing (.post p) s)
  have hpost : ∀ p, m ≠ .post p := fun p hp => hpost ⟨p, hp⟩
  obtain ⟨-, hevent⟩ := hallows hpost
  obtain ⟨-, hmove⟩ | ⟨rfl, -, hmove⟩ | ⟨-, -, hmove⟩ := microMove_cases m s
  · obtain ⟨e, he, htrace⟩ := microStep_issues hpost s
    rw [hmove]
    exact traceLegal_snoc hs htrace (by rw [hevent e he, advance_framing, microStep_framing])
  · obtain ⟨e, he, htrace⟩ := issueWait_issues s
    rw [hmove]
    exact traceLegal_snoc hs htrace (hevent e he)
  · rw [hmove]
    exact traceLegal_congr hs rfl rfl

/-- Settles O42: the monitor allows every micro-operation's event where the framing places it in its program, and
follows it as the registers do. -/
theorem stepKeepsLineProtocol : Obligations.StepKeepsLineProtocol := by
  unfold Obligations.StepKeepsLineProtocol
  intro s t hf hs h
  refine ⟨stepKeepsFraming s t hf h, ?_⟩
  obtain ⟨-, -, rfl⟩ | ⟨-, -, -, i, -, -, rfl⟩ | ⟨-, w, -, -, -, rfl⟩ | ⟨hb, i, m, hd, -, -, hm, rfl⟩ := step_next h
  · exact hs
  · exact traceLegal_congr hs rfl rfl
  · exact traceLegal_congr hs rfl rfl
  · exact microMove_traceLegal hs (framed_allows hf hb hd hm)

end Sys2Proof.Proofs
end

section
/-! SUPPORT. Who writes the registers the host reads, and when (10_state.md R29 to R33): what a step can do to them,
said once, and the statements about BUSY, DONE, FAULT, RESULT, STATUS and the completion records. -/

namespace Sys2Proof.Proofs

open Sys2Proof.Machine Sys2Proof.Laws

/-! ### What a step can do to the registers the host reads -/

/-- Only a POST touches what the host reads. -/
theorem microMove_hostView (m : MicroOp) (s : State) :
    (∃ p, m = .post p ∧ microMove m s = advance (post p s)) ∨
      (hostView (microMove m s) = hostView s ∧ (microMove m s).completions = s.completions) := by
  obtain ⟨hne, hmove⟩ | ⟨-, -, hmove⟩ | ⟨-, -, hmove⟩ := microMove_cases m s
  · rw [hmove]
    cases m with
    | post p => exact .inl ⟨p, rfl, rfl⟩
    | wait => exact absurd rfl hne
    | drv | txBit | rxBegin | rxBit | rxEnd => exact .inr ⟨rfl, rfl⟩
  · exact .inr (by rw [hmove]; exact ⟨rfl, rfl⟩)
  · exact .inr (by rw [hmove]; exact ⟨rfl, rfl⟩)

theorem opcode_not_reserved (i : Instr) : i.opcode.toNat < 0xB := by
  cases i <;> simp [Instr.opcode]

/-- The `OP` field of a word that spells an operation. -/
theorem decodeWord_ok_op {w : Req} {i : Instr} (h : decodeWord w = .ok i) : (w.extractLsb' 0 4).toNat < 0xB := by
  obtain ⟨hop, -⟩ := decodeFields_ok h
  rw [show w.extractLsb' 0 4 = i.opcode from hop.symm]
  exact opcode_not_reserved i

/-- The `OP` field of a word that spells none. -/
theorem decodeWord_error_op {w : Req} {e : DecodeError} (h : decodeWord w = .error e) :
    0xB ≤ (w.extractLsb' 0 4).toNat :=
  (decodeFields_error h).2

/-- All that a step can do to what the host reads: nothing; ACCEPT; FAULT_ILLEGAL_OP; or the latched operation's POST,
the last entry of its micro-program. -/
theorem step_hostView {s t : State} (h : step s = .next t) :
    (hostView t = hostView s ∧ t.completions = s.completions ∧ ∀ w rest, ¬ s.presents w rest) ∨
      (∃ w rest i, s.presents w rest ∧ decodeWord w = .ok i ∧ t = accept i.opcode i.operand s) ∨
      (∃ w rest, s.presents w rest ∧ 0xB ≤ (w.extractLsb' 0 4).toNat ∧ t = raiseIllegalOp (reqOp w) s) ∨
      (s.busy = true ∧ ∃ i, decodeWord (reqWord s.operand s.op) = .ok i ∧ i.opcode = s.op ∧ i.operand = s.operand ∧
        (program s.cfg i)[s.upc]? = some (.post (postOf i)) ∧ s.upc + 1 = (program s.cfg i).length ∧
        t = advance (post (postOf i) s)) := by
  obtain ⟨-, hr, rfl⟩ | ⟨hb, w, rest, i, hr, hd, rfl⟩ | ⟨hb, w, rest, hr, hd, rfl⟩ |
    ⟨hb, i, m, hd, ho, hx, hm, rfl⟩ := step_next h
  · exact .inl ⟨rfl, rfl, fun w rest ⟨_, hw⟩ => by simp [hr] at hw⟩
  · exact .inr (.inl ⟨w, rest, i, ⟨hb, hr⟩, hd, rfl⟩)
  · exact .inr (.inr (.inl ⟨w, rest, ⟨hb, hr⟩, decodeWord_error_op hd, rfl⟩))
  · obtain ⟨p, rfl, hmove⟩ | ⟨hview, hcs⟩ := microMove_hostView m s
    · obtain ⟨hlen, rfl⟩ := post_in_program hm
      exact .inr (.inr (.inr ⟨hb, i, hd, ho, hx, hm, hlen, hmove⟩))
    · exact .inl ⟨hview, hcs, fun w rest ⟨hidle, _⟩ => by simp [hb] at hidle⟩

/-! ### What each post-processing writes -/

/-- Only the six reads have a post-processing that writes `RESULT`. -/
theorem applyPost_postOf_result (c : Config) {i : Instr} (hi : readsAs c i = none) (s : State) :
    (applyPost (postOf i) s).result = s.result := by
  cases i with
  | readTemp | readTh | readTl | readCounter | readSlope | readConfig => simp [readsAs] at hi
  | writeTh | writeTl | startConvert | stopConvert => rfl
  | writeConfig x => cases hx : configRejected x <;> simp [postOf, hx, applyPost]

/-- Only WRITE_CONFIG has a post-processing that writes `STATUS`. -/
theorem applyPost_postOf_status {i : Instr} (hi : ∀ x, i ≠ .writeConfig x) (s : State) :
    (applyPost (postOf i) s).status = s.status := by
  cases i with
  | writeConfig x => exact absurd rfl (hi x)
  | _ => rfl

theorem cfgRead_toNat (v : Raw) : (cfgRead v).toNat = v.toNat % 256 := by
  simp [cfgRead]

/-- `STATUS` as WRITE_CONFIG's post-processing leaves it (43_write_ops.md R104). -/
theorem applyPost_writeConfig_status (x : Operand) {s : State} (hx : s.operand = x) :
    (applyPost (postOf (.writeConfig x)) s).status =
      if x.toInt ≤ 0 then 2#2 else if ((s.sr.toNat % 256 : Nat) : Int) = x.toInt then 0#2 else 1#2 := by
  subst hx
  by_cases hx : s.operand.toInt ≤ 0
  · have hp : postOf (.writeConfig s.operand) = .reject := by simp [postOf, configRejected, hx]
    rw [hp, if_pos hx]
    rfl
  · have hp : postOf (.writeConfig s.operand) = .verify := by simp [postOf, configRejected, hx]
    rw [hp, if_neg hx, ← cfgRead_toNat]
    rfl

/-- No post-processing makes `STATUS` 3. -/
theorem applyPost_status_ne {s : State} (hs : s.status ≠ 3#2) (p : Post) : (applyPost p s).status ≠ 3#2 := by
  cases p with
  | reject => simp [applyPost, statusRejected]
  | verify =>
    simp only [applyPost, statusVerify]
    split <;> decide
  | temp | thresh | raw9 | cfg | nothing => exact hs

/-! ### The statements -/

/-- Settles O14: of all that a step does only FAULT_ILLEGAL_OP writes `FAULT`, and it sets it. -/
theorem faultIsSticky : Obligations.FaultIsSticky := by
  unfold Obligations.FaultIsSticky
  intro s t h
  have hkeep (heq : t.fault = s.fault) : (s.fault = true → t.fault = true) ∧
      (s.fault = false → t.fault = true → s.busy = false ∧ ∃ w rest, s.requests = w :: rest ∧
        0xB ≤ (w.extractLsb' 0 4).toNat) :=
    ⟨fun hs => heq.trans hs, fun hs ht => by simp [heq, hs] at ht⟩
  obtain ⟨-, -, rfl⟩ | ⟨-, -, -, i, -, -, rfl⟩ | ⟨hb, w, rest, hr, hd, rfl⟩ | ⟨-, -, m, -, -, -, -, rfl⟩ := step_next h
  · exact hkeep rfl
  · exact hkeep rfl
  · exact ⟨fun _ => rfl, fun _ _ => ⟨hb, w, rest, hr, decodeWord_error_op hd⟩⟩
  · exact hkeep (microMove_fault m s)

/-- Settles O32: only a POST can change `RESULT`, and only a read's does; it is the 58th entry of its program. -/
theorem resultWrittenOnlyByReads : Obligations.ResultWrittenOnlyByReads := by
  unfold Obligations.ResultWrittenOnlyByReads
  intro s t h hne
  obtain ⟨hview, -⟩ | ⟨-, -, i, -, -, rfl⟩ | ⟨w, -, -, -, rfl⟩ | ⟨hb, i, -, ho, -, -, hlen, rfl⟩ := step_hostView h
  · exact absurd (congrArg HostView.result hview) hne
  · exact absurd rfl hne
  · exact absurd rfl hne
  · refine ⟨hb, rfl, rfl, ?_⟩
    rw [← ho]
    cases i with
    | readTemp | readTh | readTl | readCounter | readSlope | readConfig =>
      exact ⟨Nat.succ.inj hlen, by simp [Instr.opcode]⟩
    | writeTh | writeTl | startConvert | stopConvert | writeConfig =>
      exact absurd (applyPost_postOf_result s.cfg rfl s) hne

/-- Settles O33: only a POST can change `STATUS`, and only WRITE_CONFIG's does. -/
theorem statusWrittenOnlyByWriteConfig : Obligations.StatusWrittenOnlyByWriteConfig := by
  unfold Obligations.StatusWrittenOnlyByWriteConfig
  intro s t h hne
  obtain ⟨hview, -⟩ | ⟨-, -, i, -, -, rfl⟩ | ⟨w, -, -, -, rfl⟩ | ⟨hb, i, -, ho, hx, -, -, rfl⟩ := step_hostView h
  · exact absurd (congrArg HostView.status hview) hne
  · exact absurd rfl hne
  · exact absurd rfl hne
  · by_cases hi : ∃ x, i = .writeConfig x
    · obtain ⟨x, rfl⟩ := hi
      obtain rfl : x = s.operand := hx
      exact ⟨hb, rfl, rfl, ho.symm, applyPost_writeConfig_status _ rfl⟩
    · exact absurd (applyPost_postOf_status (fun x hx => hi ⟨x, hx⟩) s) hne

/-- Settles O34: a step that leaves what the host reads changes neither flag; ACCEPT and FAULT_ILLEGAL_OP take a
presented word, with an OP below 0xB and at or above it; a POST ends a busy engine's operation. -/
theorem busyAndDoneChange : Obligations.BusyAndDoneChange := by
  unfold Obligations.BusyAndDoneChange
  intro s t h
  obtain ⟨hview, -, hnone⟩ | ⟨w, rest, i, ⟨hb, hr⟩, hd, rfl⟩ | ⟨w, rest, ⟨hb, hr⟩, hop, rfl⟩ |
    ⟨hb, i, hd, -, -, hpost, -, rfl⟩ := step_hostView h
  · have hbusy : t.busy = s.busy := congrArg HostView.busy hview
    have hdone : t.done = s.done := congrArg HostView.done hview
    refine ⟨fun w rest hw => absurd hw (hnone w rest), fun hs ht => ?_, fun hs ht => ?_, fun hne => absurd hdone hne,
      fun w rest hw => absurd hw (hnone w rest)⟩
    · simp [hbusy, hs] at ht
    · simp [hbusy, hs] at ht
  · have hop := decodeWord_ok_op hd
    refine ⟨fun _ _ _ _ => ⟨rfl, rfl⟩, fun _ _ => ⟨rfl, w, rest, hr, hop⟩, fun hs => ?_, fun _ hs => ?_, ?_⟩
    · simp [hb] at hs
    · simp [hb] at hs
    · rintro v tail ⟨-, hv⟩ hreserved
      obtain ⟨rfl, -⟩ : w = v ∧ rest = tail := by simpa [hr] using hv
      omega
  · refine ⟨?_, fun _ ht => ?_, fun hs => ?_, fun _ _ => ⟨hb, rfl, w, rest, hr, hop⟩, fun _ _ _ _ => ⟨rfl, hb⟩⟩
    · rintro v tail ⟨-, hv⟩ hlt
      obtain ⟨rfl, -⟩ : w = v ∧ rest = tail := by simpa [hr] using hv
      omega
    · simp [hb] at ht
    · simp [hb] at hs
  · refine ⟨fun _ _ ⟨hidle, _⟩ => ?_, fun hs => ?_, fun _ _ => ⟨rfl, i, _, hd, hpost⟩, fun _ hs => ?_,
      fun _ _ ⟨hidle, _⟩ => ?_⟩
    · simp [hb] at hidle
    · simp [hb] at hs
    · simp [hb, post] at hs
    · simp [hb] at hidle

/-- Settles O44: a POST and FAULT_ILLEGAL_OP append the record of the registers as they leave them; nothing else appends
one, and no post-processing makes `STATUS` 3. -/
theorem completionsReportTheRegisters : Obligations.CompletionsReportTheRegisters := by
  unfold Obligations.CompletionsReportTheRegisters
  intro s t hs h
  obtain ⟨hview, hcs, -⟩ | ⟨-, -, i, -, -, rfl⟩ | ⟨w, -, ⟨hb, -⟩, -, rfl⟩ | ⟨-, i, -, -, -, -, -, rfl⟩ := step_hostView h
  · have hstatus : t.status = s.status := congrArg HostView.status hview
    exact ⟨by rwa [hstatus], .inl hcs⟩
  · exact ⟨hs, .inl rfl⟩
  · exact ⟨hs, .inr ⟨rfl, hb, rfl⟩⟩
  · exact ⟨applyPost_status_ne hs _, .inr ⟨by simp [post, complete, advance], rfl, rfl⟩⟩

end Sys2Proof.Proofs
end

section
/-! SUPPORT. What a step reads and leaves unchanged (10_state.md R20, R33): FAULT and the completion records are read by
no step; the frame of an operation's step. -/

namespace Sys2Proof.Proofs

open Sys2Proof.Machine Sys2Proof.Laws

/-! ### No step reads FAULT -/

/-- The state with another `FAULT` and other completion records. -/
def withReport (s : State) (b : Bool) (cs : List Completion) : State := { s with fault := b, completions := cs }

/-- Two outcomes of a step that are the same but for `FAULT` and the completion records of a next state. -/
inductive SameButReport : Host.Outcome State Fault Refusal → Host.Outcome State Fault Refusal → Prop
  | next (t : State) (b : Bool) (cs : List Completion) : SameButReport (.next t) (.next (withReport t b cs))
  | fault (r : Fault) : SameButReport (.fault r) (.fault r)
  | refused (r : Refusal) : SameButReport (.refused r) (.refused r)

theorem microMove_withReport (m : MicroOp) (s : State) (b : Bool) (cs : List Completion) :
    ∃ ds, microMove m (withReport s b cs) = withReport (microMove m s) b ds := by
  cases m with
  | drv | txBit | rxBegin | rxBit | rxEnd => exact ⟨cs, rfl⟩
  | wait =>
    cases hw : s.waiting with
    | none => exact ⟨cs, by rw [microMove_wait_issue hw, microMove_wait_issue (s := withReport s b cs) hw]; rfl⟩
    | some ms => exact ⟨cs, by rw [microMove_wait_end hw, microMove_wait_end (s := withReport s b cs) hw]; rfl⟩
  | post p => cases p <;> exact ⟨_, rfl⟩

theorem carryOut_withReport (prog : List MicroOp) (s : State) (b : Bool) (cs : List Completion) :
    SameButReport (carryOut prog s) (carryOut prog (withReport s b cs)) := by
  cases hm : prog[s.upc]? with
  | none =>
    have hm' : prog[(withReport s b cs).upc]? = none := hm
    simp only [carryOut, hm, hm']
    exact .fault _
  | some m =>
    obtain ⟨ds, hmove⟩ := microMove_withReport m s b cs
    rw [carryOut_eq hm, carryOut_eq (s := withReport s b cs) hm, hmove]
    exact .next _ b ds

theorem engineStep_withReport (o : OpCode) (x : Operand) (prog : List MicroOp) (s : State) (b : Bool)
    (cs : List Completion) :
    SameButReport (engineStep o x prog s) (engineStep o x prog (withReport s b cs)) := by
  cases hb : s.busy with
  | false =>
    rw [engineStep_idle hb, engineStep_idle (s := withReport s b cs) hb]
    exact .next _ b cs
  | true =>
    by_cases hlatched : s.op = o ∧ s.operand = x
    · rw [engineStep_busy hb hlatched.1 hlatched.2,
        engineStep_busy (s := withReport s b cs) hb hlatched.1 hlatched.2]
      exact carryOut_withReport prog s b cs
    · rw [engineStep, if_pos hb, if_neg hlatched, engineStep, if_pos (show (withReport s b cs).busy = true from hb),
        if_neg (show ¬ ((withReport s b cs).op = o ∧ (withReport s b cs).operand = x) from hlatched)]
      exact .refused _

theorem rejectRequest_withReport (e : DecodeError) (s : State) (b : Bool) (cs : List Completion) :
    SameButReport (rejectRequest e s) (rejectRequest e (withReport s b cs)) := by
  cases e with
  | reservedOp o =>
    cases hb : s.busy with
    | true =>
      rw [rejectRequest, if_pos hb, rejectRequest, if_pos (show (withReport s b cs).busy = true from hb)]
      exact .fault _
    | false =>
      rw [rejectRequest, if_neg (by simp [hb]), rejectRequest, if_neg (by simp [withReport, hb])]
      exact .next _ true _

theorem step_withReport (s : State) (b : Bool) (cs : List Completion) :
    SameButReport (step s) (step (withReport s b cs)) := by
  have hword : currentWord (withReport s b cs) = currentWord s := rfl
  unfold step
  rw [hword]
  cases currentWord s with
  | none => exact .next s b cs
  | some w =>
    cases hd : decodeWord w with
    | ok i =>
      simp only [hd, exec_eq]
      exact engineStep_withReport _ _ _ s b cs
    | error e =>
      simp only [hd]
      exact rejectRequest_withReport e s b cs

/-- Settles O15: each part of the step does the same with another `FAULT` and other completion records. -/
theorem faultIsReadByNoStep : Obligations.FaultIsReadByNoStep := by
  unfold Obligations.FaultIsReadByNoStep
  intro s b cs
  have hsame := step_withReport s b cs
  unfold withReport at hsame
  revert hsame
  generalize step s = o, step { s with fault := b, completions := cs } = q
  rintro (_ | _ | _) <;> rfl

/-! ### The frame of an operation's step -/

/-- The micro-operation leaves the direction of DQ alone and takes no sample. -/
abbrev KeepsDirection (m : MicroOp) : Prop := m.setsDirection = false ∧ m.samples = false

theorem tx_keepsDirection (n : Nat) (v : Raw) : ∀ m ∈ tx n v, KeepsDirection m := by
  intro m hm
  obtain ⟨i, -, rfl | rfl | rfl⟩ : ∃ i ∈ bitIndexes.take n,
      m = .txBit v i ∨ m = .drv .clk .low ∨ m = .drv .clk .high := by simpa [tx] using hm
  all_goals exact ⟨rfl, rfl⟩

theorem beginBlock_keepsDirection : ∀ m ∈ beginBlock, KeepsDirection m := by decide

theorem beginCommand_keepsDirection (c : Command) : ∀ m ∈ beginBlock ++ tx8 c, KeepsDirection m :=
  List.forall_mem_append.mpr ⟨beginBlock_keepsDirection, tx_keepsDirection 8 _⟩

theorem writeSession_keepsDirection (c : Command) (n : Nat) (v : Raw) :
    ∀ m ∈ beginBlock ++ tx8 c ++ tx n v ++ settleBlock ++ endBlock, KeepsDirection m := by
  refine List.forall_mem_append.mpr ⟨List.forall_mem_append.mpr ⟨List.forall_mem_append.mpr
    ⟨beginCommand_keepsDirection c, tx_keepsDirection n v⟩, ?_⟩, ?_⟩
  all_goals decide

theorem writeThresholdProgram_keepsDirection (c : Command) (x : Operand) :
    ∀ m ∈ writeThresholdProgram c x, KeepsDirection m :=
  List.forall_mem_append.mpr ⟨writeSession_keepsDirection c 9 _, by decide⟩

theorem commandProgram_keepsDirection (c : Command) : ∀ m ∈ commandProgram c, KeepsDirection m :=
  List.forall_mem_append.mpr ⟨List.forall_mem_append.mpr ⟨beginCommand_keepsDirection c, by decide⟩, by decide⟩

/-- Only the reads and WRITE_CONFIG receive. -/
theorem program_keepsDirection {c : Config} {i : Instr} (hi : readsAs c i = none) (hw : ∀ x, i ≠ .writeConfig x) :
    ∀ m ∈ program c i, KeepsDirection m := by
  cases i with
  | readTemp | readTh | readTl | readCounter | readSlope | readConfig => simp [readsAs] at hi
  | writeTh | writeTl => exact writeThresholdProgram_keepsDirection _ _
  | startConvert | stopConvert => exact commandProgram_keepsDirection _
  | writeConfig x => exact absurd rfl (hw x)

theorem microMove_keepsDirection {m : MicroOp} (hm : KeepsDirection m) (s : State) :
    (microMove m s).dqDir = s.dqDir ∧ (microMove m s).responder = s.responder ∧ (microMove m s).draws = s.draws := by
  obtain ⟨hdir, hsample⟩ := hm
  obtain ⟨-, hmove⟩ | ⟨-, -, hmove⟩ | ⟨-, -, hmove⟩ := microMove_cases m s
  · rw [hmove]
    cases m with
    | rxBegin | rxEnd => simp [MicroOp.setsDirection] at hdir
    | rxBit => simp [MicroOp.samples] at hsample
    | drv | txBit | wait => exact ⟨rfl, rfl, rfl⟩
    | post p => simp [microStep, post]
  · rw [hmove]
    exact ⟨rfl, rfl, rfl⟩
  · rw [hmove]
    exact ⟨rfl, rfl, rfl⟩

/-- A move takes `UPC` on by one, or issues a wait and does nothing else. -/
theorem microMove_progress (m : MicroOp) (s : State) :
    ((microMove m s).waiting = s.waiting ∨ (microMove m s).waiting = none) ∧ (microMove m s).upc = s.upc + 1 ∨
      s.waiting = none ∧ microMove m s = { s with
        waiting := some s.cfg.writeSettleMs
        trace := s.trace ++ [.wait s.cfg.writeSettleMs] } := by
  obtain ⟨hne, hmove⟩ | ⟨-, hw, hmove⟩ | ⟨-, -, hmove⟩ := microMove_cases m s
  · refine .inl ⟨.inl ?_, by simp [hmove]⟩
    rw [hmove]
    cases m with
    | wait => exact absurd rfl hne
    | drv | txBit | rxBegin | rxBit | rxEnd => rfl
    | post p => simp [microStep, post]
  · exact .inr ⟨hw, hmove⟩
  · exact .inl ⟨.inr (by rw [hmove]; rfl), by rw [hmove]; rfl⟩

/-- Only the reads' moves write `RESULT`. -/
theorem microMove_result {c : Config} {i : Instr} {k : Nat} {m : MicroOp} (hi : readsAs c i = none)
    (hm : (program c i)[k]? = some m) (s : State) : (microMove m s).result = s.result := by
  obtain ⟨p, rfl, hmove⟩ | ⟨hview, -⟩ := microMove_hostView m s
  · obtain ⟨-, rfl⟩ := post_in_program hm
    rw [hmove]
    exact applyPost_postOf_result c hi s
  · exact congrArg HostView.result hview

/-- Only WRITE_CONFIG's moves write `STATUS`. -/
theorem microMove_status {c : Config} {i : Instr} {k : Nat} {m : MicroOp} (hi : ∀ x, i ≠ .writeConfig x)
    (hm : (program c i)[k]? = some m) (s : State) : (microMove m s).status = s.status := by
  obtain ⟨p, rfl, hmove⟩ | ⟨hview, -⟩ := microMove_hostView m s
  · obtain ⟨-, rfl⟩ := post_in_program hm
    rw [hmove]
    exact applyPost_postOf_status hi s
  · exact congrArg HostView.status hview

/-- Settles O31: ACCEPT writes six fields; a move writes what its micro-operation does, which stands in the operation's
micro-program. -/
theorem operationFrame : Obligations.OperationFrame := by
  unfold Obligations.OperationFrame
  intro i s t h
  obtain ⟨hb, rfl⟩ | ⟨hb, -, -, m, hm, rfl⟩ := exec_next h
  · exact ⟨rfl, rfl, fun hs => by simp [hb] at hs, fun _ => by simp, fun _ => rfl, fun _ => rfl,
      fun _ _ => ⟨rfl, rfl, rfl⟩⟩
  · exact ⟨microMove_cfg m s, microMove_fault m s,
      fun _ => ⟨microMove_op m s, microMove_operand m s, microMove_requests m s, microMove_progress m s⟩,
      fun hs => by simp [hb] at hs, fun hi => microMove_result hi hm s, fun hi => microMove_status hi hm s,
      fun hi hw => microMove_keepsDirection (program_keepsDirection hi hw m (List.mem_of_getElem? hm)) s⟩

end Sys2Proof.Proofs
end

section
/-! SUPPORT. Invariants I1 to I3 (10_state.md R23, R28, R37) in every framed state. -/

namespace Sys2Proof.Proofs

open Sys2Proof.Machine Sys2Proof.Laws

/-! ### Where DQ is an input -/

/-- Only RXBEGIN and RXEND turn DQ. -/
theorem after_dqDir {m : MicroOp} (h : m.setsDirection = false) (f : Framing) : (f.after m).dqDir = f.dqDir := by
  cases m with
  | drv l v => cases l <;> cases v <;> rfl
  | rxBegin | rxEnd => simp [MicroOp.setsDirection] at h
  | txBit | rxBit | wait | post => rfl

theorem afterAll_dqDir {ms : List MicroOp} (h : ∀ m ∈ ms, KeepsDirection m) (f : Framing) :
    (f.afterAll ms).dqDir = f.dqDir := by
  induction ms generalizing f with
  | nil => rfl
  | cons m ms ih =>
    obtain ⟨⟨hm, -⟩, hms⟩ := List.forall_mem_cons.mp h
    exact (ih hms (f.after m)).trans (after_dqDir hm f)

/-- Where the program has left DQ an input, a session is open and the next index lies inside an RX9
(10_state.md R37 (I1)). -/
def ReceivesInSession (prog : List MicroOp) : Prop :=
  ∀ (f : Framing) (n : Nat), f.dqDir = .output → (f.afterAll (prog.take n)).dqDir = .input →
    (f.afterAll (prog.take n)).session = .opened ∧
      ∃ j, j < n ∧ n ≤ j + 28 ∧ prog[j]? = some .rxBegin ∧ prog[j + 28]? = some .rxEnd

theorem receivesInSession_of_keepsDirection {prog : List MicroOp} (h : ∀ m ∈ prog, KeepsDirection m) :
    ReceivesInSession prog := by
  intro f n hf hin
  rw [afterAll_dqDir (fun m hm => h m (List.mem_of_mem_take hm)), hf] at hin
  cases hin

/-- One reception, in a session. -/
theorem receivesInSession_rx9 {pre rest : List MicroOp} (hpre : ∀ m ∈ pre, KeepsDirection m)
    (hopen : ∀ f : Framing, (f.afterAll pre).session = .opened) (hrest : ∀ m ∈ rest, KeepsDirection m) :
    ReceivesInSession (pre ++ rx9 ++ rest) := by
  intro f n hf hin
  have hlen : rx9.length = 29 := rfl
  have hafter : pre.length < n := by
    by_contra hle
    rw [List.append_assoc, List.take_append_of_le_length (by omega),
      afterAll_dqDir (fun m hm => hpre m (List.mem_of_mem_take hm)), hf] at hin
    cases hin
  have hbefore : n ≤ pre.length + 28 := by
    by_contra hgt
    obtain ⟨d, rfl⟩ : ∃ d, n = (pre ++ rx9).length + d := Nat.exists_eq_add_of_le (by simp [hlen]; omega)
    rw [List.take_length_add_append, afterAll_append, afterAll_append,
      afterAll_dqDir (fun m hm => hrest m (List.mem_of_mem_take hm))] at hin
    cases hin
  have htake : (pre ++ rx9 ++ rest).take n = pre ++ rx9.take (n - pre.length) := by
    rw [List.take_append_of_le_length (by simp [hlen]; omega), List.take_append, List.take_of_length_le hafter.le]
  have hrst : ∀ m ∈ rx9, m.drives .rst = false := by decide
  refine ⟨?_, pre.length, hafter, hbefore, ?_, ?_⟩
  · rw [htake, afterAll_append, afterAll_session (fun m hm => hrst m (List.mem_of_mem_take hm)), hopen]
  · rw [List.append_assoc, List.getElem?_append_right le_rfl, Nat.sub_self]
    rfl
  · rw [List.append_assoc, List.getElem?_append_right (Nat.le_add_right _ _), Nat.add_sub_cancel_left]
    rfl

/-- BEGIN and a command leave a session open, whatever was before. -/
theorem afterAll_beginCommand_session (ms : List MicroOp) (c : Command) (f : Framing) :
    (f.afterAll (ms ++ (beginBlock ++ tx8 c))).session = .opened := by
  rw [afterAll_append, afterAll_append, tx8, afterAll_tx_session]
  rfl

theorem receivesInSession_readProgram (c : Command) (p : Post) : ReceivesInSession (readProgram c p) := by
  rw [readProgram, List.append_assoc (_ ++ rx9)]
  exact receivesInSession_rx9 (beginCommand_keepsDirection c) (afterAll_beginCommand_session [] c)
    (List.forall_mem_append.mpr ⟨by decide, by simp [KeepsDirection, MicroOp.setsDirection, MicroOp.samples]⟩)

theorem receivesInSession_writeConfigProgram (c d : Command) (x : Operand) :
    ReceivesInSession (writeConfigProgram c d x) := by
  obtain hx | hx := le_or_gt x.toInt 0
  · rw [writeConfigProgram_rejected c d hx]
    exact receivesInSession_of_keepsDirection (by decide)
  · have hpre := List.forall_mem_append.mpr
      ⟨writeSession_keepsDirection c 8 (frame8 (cfgPayload x)), beginCommand_keepsDirection d⟩
    rw [writeConfigProgram_accepted c d hx, List.append_assoc (_ ++ rx9)]
    rw [List.append_assoc (_ ++ endBlock)]
    exact receivesInSession_rx9 hpre (afterAll_beginCommand_session _ d) (by decide)

theorem receivesInSession_program (c : Config) (i : Instr) : ReceivesInSession (program c i) := by
  cases i with
  | readTemp | readTh | readTl | readCounter | readSlope | readConfig => exact receivesInSession_readProgram _ _
  | writeTh | writeTl => exact receivesInSession_of_keepsDirection (writeThresholdProgram_keepsDirection _ _)
  | startConvert | stopConvert => exact receivesInSession_of_keepsDirection (commandProgram_keepsDirection _)
  | writeConfig => exact receivesInSession_writeConfigProgram _ _ _

/-! ### SESSION and RST; the idle framings; `UPC` -/

/-- `SESSION` is OPEN exactly where RST was last driven HIGH (10_state.md R23). -/
abbrev SessionShowsRst (f : Framing) : Prop := f.session = .opened ↔ f.rst = .driven .high

theorem after_sessionShowsRst (m : MicroOp) {f : Framing} (h : SessionShowsRst f) : SessionShowsRst (f.after m) := by
  cases m with
  | drv l v =>
    cases l with
    | rst => cases v <;> simp [SessionShowsRst, Framing.after]
    | clk | dq => exact h
  | _ => exact h

theorem afterAll_sessionShowsRst (ms : List MicroOp) {f : Framing} (h : SessionShowsRst f) :
    SessionShowsRst (f.afterAll ms) := by
  induction ms generalizing f with
  | nil => exact h
  | cons m ms ih => exact ih (after_sessionShowsRst m h)

theorem betweenOperations_sessionShowsRst {f : Framing} (h : BetweenOperations f) : SessionShowsRst f := by
  obtain rfl | rfl := h <;> decide

/-- What holds between operations (10_state.md R37 (I3)). -/
theorem betweenOperations_facts {f : Framing} (h : BetweenOperations f) :
    f.session = .closed ∧ f.dqDir = .output ∧
      ((f.rst = .unknown ∧ f.clk = .unknown) ∨ (f.rst = .driven .low ∧ f.clk = .driven .high)) := by
  obtain rfl | rfl := h <;> decide

theorem program_length_le (c : Config) (i : Instr) : (program c i).length ≤ 111 := by
  cases i with
  | readTemp | readTh | readTl | readCounter | readSlope | readConfig =>
    exact (readProgram_length _ _).trans_le (by decide)
  | writeTh | writeTl => exact (writeThresholdProgram_length _ _).trans_le (by decide)
  | startConvert | stopConvert => exact (commandProgram_length _).trans_le (by decide)
  | writeConfig x =>
    refine (writeConfigProgram_length _ _ x).trans_le ?_
    split <;> decide

theorem framed_sessionShowsRst {s : State} (hf : s.framed = true) : SessionShowsRst s.framing := by
  cases hb : s.busy with
  | false =>
    obtain ⟨-, hbetween⟩ := framed_idle hf hb
    exact betweenOperations_sessionShowsRst hbetween
  | true =>
    obtain ⟨i, -, -, -, f, hbetween, hframing⟩ := framed_busy hf hb
    rw [hframing]
    exact afterAll_sessionShowsRst _ (betweenOperations_sessionShowsRst hbetween)

/-- A framed state that receives is busy and in a session, inside an RX9 of the latched operation's program. -/
theorem framed_input {s : State} (hf : s.framed = true) (hin : s.dqDir = .input) :
    s.busy = true ∧ s.session = .opened ∧
      ∃ i j k, decodeWord (reqWord s.operand s.op) = .ok i ∧ j < s.upc ∧ s.upc ≤ k ∧
        (program s.cfg i)[j]? = some .rxBegin ∧ (program s.cfg i)[k]? = some .rxEnd ∧ k = j + 28 := by
  cases hb : s.busy with
  | false =>
    obtain ⟨-, hbetween⟩ := framed_idle hf hb
    obtain ⟨-, hout, -⟩ := betweenOperations_facts hbetween
    exact absurd (hin.symm.trans hout) (by decide)
  | true =>
    obtain ⟨i, hd, -, -, f, hbetween, hframing⟩ := framed_busy hf hb
    obtain ⟨-, hout, -⟩ := betweenOperations_facts hbetween
    obtain ⟨hopen, j, hj, hk, hbegin, hend⟩ := receivesInSession_program s.cfg i f s.upc hout
      ((congrArg Framing.dqDir hframing).symm.trans hin)
    exact ⟨rfl, (congrArg Framing.session hframing).trans hopen, i, j, j + 28, hd, hj, hk, hbegin, hend, rfl⟩

/-- A framed state with a wait outstanding is busy, in a session and at a `WAIT`. -/
theorem framed_waiting_facts {s : State} (hf : s.framed = true) (hw : s.waiting ≠ none) :
    s.busy = true ∧ s.session = .opened ∧
      ∃ i, decodeWord (reqWord s.operand s.op) = .ok i ∧ (program s.cfg i)[s.upc]? = some .wait := by
  obtain ⟨ms, hms⟩ := Option.ne_none_iff_exists'.mp hw
  obtain ⟨hb, i, hd, hwait, f, hframing⟩ := framed_waiting hf hms
  obtain ⟨-, hopen⟩ := waitsBeforeEnd_program s.cfg i s.upc hwait
  exact ⟨hb, (congrArg Framing.session hframing).trans (hopen f), i, hd, hwait⟩

/-- Settles O41: an idle framed state is between operations; a busy one has the framing that its micro-program's
carried-out part leaves. -/
theorem framedStateFacts : Obligations.FramedStateFacts := by
  unfold Obligations.FramedStateFacts
  intro s hf
  have hidle (hb : s.busy = false) := betweenOperations_facts (framed_idle hf hb).2
  refine ⟨framed_input hf, fun hopen => ?_, hidle, framed_sessionShowsRst hf, fun hb => ?_, framed_waiting_facts hf⟩
  · by_contra hb
    obtain ⟨hclosed, -⟩ := hidle (by simpa using hb)
    exact absurd (hopen.symm.trans hclosed) (by decide)
  · obtain ⟨i, -, hupc, -⟩ := framed_busy hf hb
    exact hupc.trans_le (program_length_le s.cfg i)

end Sys2Proof.Proofs
end

section
/-! SUPPORT. The request word (30_encoding.md R56 to R59, R69): decoding and encoding are inverse to each other, what a
reserved OP code does to the engine, and the operations that do not read their operand. -/

namespace Sys2Proof.Proofs

open Sys2Proof.Machine Sys2Proof.Laws

/-! ### Decoding and encoding -/

theorem instr_wellFormed (i : Instr) : i.wellFormed = true := by
  cases i <;> rfl

theorem decodeWord_encode (i : Instr) : decodeWord (encode i) = .ok i := by
  rw [encode, decodeWord_reqWord, decodeFields_opcode]

/-- A word that spells an operation is that operation's word. -/
theorem encode_of_decodeWord {w : Req} {i : Instr} (h : decodeWord w = .ok i) : encode i = w := by
  obtain ⟨hop, hoperand⟩ := decodeFields_ok h
  rw [encode, hop, hoperand, reqWord_fields]

/-- A code at or above 0xB spells no operation (30_encoding.md R58). -/
theorem decodeFields_reserved {o : OpCode} (ho : 0xB ≤ o.toNat) (x : Operand) :
    decodeFields o x = .error (.reservedOp o) := by
  cases hd : decodeFields o x with
  | ok i =>
    obtain ⟨rfl, -⟩ := decodeFields_ok hd
    exact absurd (opcode_not_reserved i) (by omega)
  | error e =>
    obtain ⟨rfl, -⟩ := decodeFields_error hd
    rfl

theorem decodeWord_reserved (x : Operand) {o : OpCode} (ho : 0xB ≤ o.toNat) :
    decodeWord (reqWord x o) = .error (.reservedOp o) :=
  (decodeWord_reqWord x o).trans (decodeFields_reserved ho x)

/-- The `OP` field alone says whether a word spells an operation (30_encoding.md R69). -/
theorem decodeWord_ok_iff (w : Req) : (∃ i, decodeWord w = .ok i) ↔ (reqOp w).toNat < 0xB := by
  constructor
  · rintro ⟨i, hd⟩
    exact decodeWord_ok_op hd
  · intro hlt
    cases hd : decodeWord w with
    | ok i => exact ⟨i, rfl⟩
    | error e => exact absurd hlt (Nat.not_lt.mpr (decodeWord_error_op hd))

theorem reqOp_toNat (w : Req) : (reqOp w).toNat = w.toNat % 16 := by
  simp [reqOp]

/-- Settles O3: an operation's word holds its code and operand in two fields that decoding reads apart, and the codes of
operations are those below 0xB. -/
theorem decodeEncodeInverse : Obligations.DecodeEncodeInverse := by
  unfold Obligations.DecodeEncodeInverse
  refine ⟨fun i => ⟨instr_wellFormed i, decodeWord_encode i⟩, fun w i => encode_of_decodeWord, fun w => ?_⟩
  rw [decodeWord_ok_iff, reqOp_toNat]

/-- Settles O1: five of the words are those of their operations, and the sixth has the reserved code 0xF. -/
theorem writtenWordsDecode : Obligations.WrittenWordsDecode := by
  unfold Obligations.WrittenWordsDecode
  have hminusTen : BitVec.ofInt 16 (-10) = 0xFFF6#16 := by decide
  rw [hminusTen]
  exact ⟨decodeWord_encode (.readTemp 0), decodeWord_encode (.readTemp 0xABCD), decodeWord_encode (.writeTh 0xFFF6),
    decodeWord_encode (.writeConfig 2), decodeWord_encode (.startConvert 0),
    decodeWord_reserved 0x1234 (o := 0xF) (by decide)⟩

/-- Settles O2: an operand beside an operation's code is that operation's word, and every word is its two fields. -/
theorem opCodeAloneSelects : Obligations.OpCodeAloneSelects :=
  ⟨fun x => ⟨decodeWord_encode (.readTemp x), decodeWord_encode (.writeTh x), decodeWord_encode (.writeTl x),
      decodeWord_encode (.readTh x), decodeWord_encode (.readTl x), decodeWord_encode (.readCounter x),
      decodeWord_encode (.readSlope x), decodeWord_encode (.startConvert x), decodeWord_encode (.stopConvert x),
      decodeWord_encode (.writeConfig x), decodeWord_encode (.readConfig x)⟩,
    fun x _ => decodeWord_reserved x,
    fun w => ⟨reqOperand w, reqOp w, (reqWord_fields w).symm, rfl, rfl⟩⟩

/-! ### A reserved OP code -/

/-- An idle engine raises FAULT_ILLEGAL_OP for a word that spells no operation (60_exceptions.md R111). -/
theorem step_idle_reserved {s : State} {w : Req} {rest : List Req} {o : OpCode} (hw : s.presents w rest)
    (hd : decodeWord w = .error (.reservedOp o)) : step s = .next (raiseIllegalOp o s) := by
  obtain ⟨hb, hr⟩ := hw
  simp [step, currentWord, hb, hr, hd, rejectRequest]

/-- Settles O13: the five codes are those that decode to the reserved outcome, for which an idle engine raises
FAULT_ILLEGAL_OP. -/
theorem reservedOpRaisesFault : Obligations.ReservedOpRaisesFault := by
  unfold Obligations.ReservedOpRaisesFault
  intro s x o rest hw ho
  have hreserved : ∀ o ∈ [0xB#4, 0xC#4, 0xD#4, 0xE#4, 0xF#4], 0xB ≤ o.toNat := by decide
  have hd : decodeWord (x ++ o) = .error (.reservedOp o) := decodeWord_reserved x (hreserved o ho)
  have hrest : s.requests.tail = rest := congrArg List.tail hw.2
  refine ⟨fun i hi => by simp [hd] at hi, ?_⟩
  rw [step_idle_reserved hw hd, raiseIllegalOp, hrest]

/-! ### The operations that do not read their operand -/

/-- The state with another latched operand. -/
def withLatched (x : Operand) (s : State) : State := { s with operand := x }

/-- The other operand spells, with the same code, an operation with the same micro-program and post-processing. -/
theorem decodeFields_operand_ignored {o : OpCode} {x : Operand} {i : Instr} (ho : o ∉ [0x1#4, 0x2#4, 0x9#4])
    (hd : decodeFields o x = .ok i) (y : Operand) :
    ∃ j, decodeFields o y = .ok j ∧ (∀ c, program c j = program c i) ∧ postOf i ≠ .verify := by
  obtain ⟨rfl, -⟩ := decodeFields_ok hd
  cases i with
  | writeTh | writeTl | writeConfig => simp [Instr.opcode] at ho
  | readTemp => exact ⟨.readTemp y, rfl, fun _ => rfl, nofun⟩
  | readTh => exact ⟨.readTh y, rfl, fun _ => rfl, nofun⟩
  | readTl => exact ⟨.readTl y, rfl, fun _ => rfl, nofun⟩
  | readCounter => exact ⟨.readCounter y, rfl, fun _ => rfl, nofun⟩
  | readSlope => exact ⟨.readSlope y, rfl, fun _ => rfl, nofun⟩
  | startConvert => exact ⟨.startConvert y, rfl, fun _ => rfl, nofun⟩
  | stopConvert => exact ⟨.stopConvert y, rfl, fun _ => rfl, nofun⟩
  | readConfig => exact ⟨.readConfig y, rfl, fun _ => rfl, nofun⟩

/-- Of the micro-operations only the POST of P_VERIFY reads the latched operand. -/
theorem microMove_withLatched {m : MicroOp} (hm : m ≠ .post .verify) (x : Operand) (s : State) :
    microMove m (withLatched x s) = withLatched x (microMove m s) := by
  cases m with
  | drv | txBit | rxBegin | rxBit | rxEnd => rfl
  | wait =>
    cases hw : s.waiting with
    | none => rw [microMove_wait_issue hw, microMove_wait_issue (s := withLatched x s) hw]; rfl
    | some ms => rw [microMove_wait_end hw, microMove_wait_end (s := withLatched x s) hw]; rfl
  | post p =>
    cases p with
    | verify => exact absurd rfl hm
    | temp | thresh | raw9 | cfg | nothing | reject => rfl

/-- Two outcomes of a step that are the same but for the latched operand of a next state. -/
inductive SameButOperand (x : Operand) :
    Host.Outcome State Fault Refusal → Host.Outcome State Fault Refusal → Prop
  | next (t : State) : SameButOperand x (.next t) (.next (withLatched x t))
  | fault (r : Fault) : SameButOperand x (.fault r) (.fault r)

/-- A busy engine with a reserved code latched, which has no micro-program. -/
theorem step_busy_reserved {s : State} {e : DecodeError} (hb : s.busy = true)
    (hd : decodeFields s.op s.operand = .error e) : step s = .fault .noProgram := by
  obtain ⟨rfl, -⟩ := decodeFields_error hd
  simp [step, currentWord, hb, decodeWord_reqWord, hd, rejectRequest]

/-- A busy engine past the end of its micro-program. -/
theorem step_past_end {s : State} {i : Instr} (hb : s.busy = true) (hd : decodeFields s.op s.operand = .ok i)
    (hm : (program s.cfg i)[s.upc]? = none) : step s = .fault .noMicroOperation := by
  obtain ⟨hop, hoperand⟩ := decodeFields_ok hd
  rw [step_busy hb ((decodeWord_reqWord _ _).trans hd), exec_eq, engineStep_busy hb hop.symm hoperand.symm]
  simp [carryOut, hm]

theorem step_withLatched {s : State} (hb : s.busy = true) (ho : s.op ∉ [0x1#4, 0x2#4, 0x9#4]) (x : Operand) :
    SameButOperand x (step s) (step (withLatched x s)) := by
  have hb' : (withLatched x s).busy = true := hb
  cases hd : decodeFields s.op s.operand with
  | error e =>
    have hd' := decodeFields_reserved (decodeFields_error hd).2 x
    rw [step_busy_reserved hb hd, step_busy_reserved hb' hd']
    exact .fault _
  | ok i =>
    obtain ⟨j, hj, hprog, hverify⟩ := decodeFields_operand_ignored ho hd x
    have hprog' : (program (withLatched x s).cfg j)[(withLatched x s).upc]? = (program s.cfg i)[s.upc]? := by
      rw [hprog]; rfl
    cases hm : (program s.cfg i)[s.upc]? with
    | none =>
      rw [step_past_end hb hd hm, step_past_end hb' hj (hprog'.trans hm)]
      exact .fault _
    | some m =>
      have hne : m ≠ .post .verify := by
        rintro rfl
        exact hverify (post_in_program hm).2.symm
      rw [step_move hb ((decodeWord_reqWord _ _).trans hd) hm,
        step_move hb' ((decodeWord_reqWord _ _).trans hj) (hprog'.trans hm), microMove_withLatched hne]
      exact .next _

/-- Settles O35: of the eight operations neither the micro-program nor a micro-operation reads the operand. -/
theorem operandIgnoredByEight : Obligations.OperandIgnoredByEight := by
  unfold Obligations.OperandIgnoredByEight
  intro s x hb ho
  have hsame := step_withLatched hb ho x
  unfold withLatched at hsame
  revert hsame
  generalize step s = o, step { s with operand := x } = q
  rintro (_ | _) <;> rfl

end Sys2Proof.Proofs
end

section
/-! SUPPORT. The assembler (30_encoding.md R67): what a word of digits is as an operand, how a line falls into
words, and the operation and request word a line spells. -/

namespace Sys2Proof.Proofs

open Sys2Proof.Machine

/-! ### Decimal words -/

/-- A decimal digit has its value, and is neither of the two characters that begin another form of operand. -/
theorem decimalDigit_facts : ∀ c ∈ "0123456789".toList,
    digitValue c = some (c.toNat - '0'.toNat) ∧ c.toNat - '0'.toNat < 10 ∧ c ≠ 'x' ∧ c ≠ '-' := by
  simp [digitValue]

theorem digitsValue_decimal {ds : List Char} (hds : ∀ c ∈ ds, c ∈ "0123456789".toList) (acc : Nat) :
    digitsValue 10 acc ds = some (ds.foldl (fun n c => 10 * n + (c.toNat - '0'.toNat)) acc) := by
  induction ds generalizing acc with
  | nil => rfl
  | cons c ds ih =>
    obtain ⟨hc, htail⟩ := List.forall_mem_cons.mp hds
    obtain ⟨hvalue, hlt, -, -⟩ := decimalDigit_facts c hc
    simp only [digitsValue, hvalue, if_pos hlt, List.foldl_cons, ih htail, Nat.mul_comm acc]

theorem parseOperand_decimal {ds : List Char} (hne : ds ≠ []) (hds : ∀ c ∈ ds, c ∈ "0123456789".toList) :
    parseOperand ds = operandOfInt (decimalValue ds) := by
  have hvalue : digitsValue 10 0 ds = some (decimalValue ds) := digitsValue_decimal hds 0
  unfold parseOperand
  split
  · next digits =>
    obtain ⟨-, -, hx, -⟩ := decimalDigit_facts 'x' (hds 'x' (by simp))
    exact absurd rfl hx
  · next digits =>
    obtain ⟨-, -, -, hminus⟩ := decimalDigit_facts '-' (hds '-' (by simp))
    exact absurd rfl hminus
  · simp [hne, hvalue]

theorem parseOperand_negative {ds : List Char} (hne : ds ≠ []) (hds : ∀ c ∈ ds, c ∈ "0123456789".toList) :
    parseOperand ('-' :: ds) = operandOfInt (-(decimalValue ds : Int)) := by
  have hvalue : digitsValue 10 0 ds = some (decimalValue ds) := digitsValue_decimal hds 0
  simp [parseOperand, hne, hvalue]

theorem operandOfInt_in_range {n : Int} (hlow : -32768 ≤ n) (hhigh : n ≤ 32767) :
    ∃ x, operandOfInt n = some x ∧ x.toInt = n :=
  ⟨BitVec.ofInt 16 n, if_pos ⟨hlow, hhigh⟩, BitVec.toInt_ofInt_eq_self (by decide) hlow (by omega)⟩

theorem operandOfInt_out_of_range {n : Int} (hn : n < -32768 ∨ 32767 < n) : operandOfInt n = none :=
  if_neg (by omega)

/-! ### Hexadecimal words -/

theorem digitValue_hexDigit : ∀ (capital : Bool) (d : BitVec 4), digitValue (hexDigit capital d) = some d.toNat := by
  decide

theorem toNat_append_digit {w : Nat} (x : BitVec w) (d : BitVec 4) : (x ++ d).toNat = x.toNat * 16 + d.toNat := by
  rw [BitVec.toNat_append, ← Nat.shiftLeft_add_eq_or_of_lt d.isLt, Nat.shiftLeft_eq]

theorem parseOperand_hex (k l m n : Bool) (a b c d : BitVec 4) :
    parseOperand ['0', 'x', hexDigit k a, hexDigit l b, hexDigit m c, hexDigit n d] = some (a ++ b ++ c ++ d) := by
  have hdigits : digitsValue 16 0 [hexDigit k a, hexDigit l b, hexDigit m c, hexDigit n d] =
      some (a ++ b ++ c ++ d).toNat := by
    have hlt (e : BitVec 4) : e.toNat < 16 := e.isLt
    simp [digitsValue, digitValue_hexDigit, toNat_append_digit, hlt]
  simp [parseOperand, hdigits]

/-! ### The words of a line -/

/-- The character belongs to a word: it is no blank and begins no comment. -/
abbrev WordChar (c : Char) : Prop := c ≠ ' ' ∧ c ≠ '\t' ∧ c ≠ ';'

theorem wordChar_of_digitValue {c : Char} {n : Nat} (h : digitValue c = some n) : WordChar c := by
  refine ⟨?_, ?_, ?_⟩ <;>
  · rintro rfl
    simp [digitValue] at h

theorem wordChar_of_digitsValue {base acc n : Nat} {ds : List Char} (h : digitsValue base acc ds = some n) :
    ∀ c ∈ ds, WordChar c := by
  induction ds generalizing acc with
  | nil => simp
  | cons c ds ih =>
    cases hc : digitValue c with
    | none => simp [digitsValue, hc] at h
    | some d =>
      simp only [digitsValue, hc, Option.ite_none_right_eq_some] at h
      exact List.forall_mem_cons.mpr ⟨wordChar_of_digitValue hc, ih h.2⟩

/-- An operand is a word. -/
theorem wordChar_of_parseOperand {word : List Char} {x : Operand} (h : parseOperand word = some x) :
    word ≠ [] ∧ ∀ c ∈ word, WordChar c := by
  unfold parseOperand at h
  split at h
  · next digits =>
    simp only [Option.ite_none_right_eq_some, Option.map_eq_some_iff] at h
    obtain ⟨-, n, hn, -⟩ := h
    refine ⟨List.cons_ne_nil _ _, List.forall_mem_cons.mpr ⟨by decide, List.forall_mem_cons.mpr ⟨by decide, ?_⟩⟩⟩
    exact wordChar_of_digitsValue hn
  · next digits =>
    simp only [Option.ite_none_left_eq_some, Option.bind_eq_some_iff] at h
    obtain ⟨-, n, hn, -⟩ := h
    exact ⟨List.cons_ne_nil _ _, List.forall_mem_cons.mpr ⟨by decide, wordChar_of_digitsValue hn⟩⟩
  · simp only [Option.ite_none_left_eq_some, Option.bind_eq_some_iff] at h
    obtain ⟨hne, n, hn, -⟩ := h
    exact ⟨by simpa using hne, wordChar_of_digitsValue hn⟩

/-- The characters of a word gather before whatever follows it. -/
theorem splitWords_wordChars {word : List Char} (hword : ∀ c ∈ word, WordChar c) (acc rest : List Char) :
    splitWords acc (word ++ rest) = splitWords (word.reverse ++ acc) rest := by
  induction word generalizing acc with
  | nil => rfl
  | cons c word ih =>
    obtain ⟨⟨hspace, htab, -⟩, htail⟩ := List.forall_mem_cons.mp hword
    simp [splitWords, hspace, htab, ih htail]

/-- A mnemonic, a space and a word are two words. -/
theorem splitWords_two {mnemonic word : List Char} (hm : mnemonic ≠ [] ∧ ∀ c ∈ mnemonic, WordChar c)
    (hw : word ≠ [] ∧ ∀ c ∈ word, WordChar c) : splitWords [] (mnemonic ++ ' ' :: word) = [mnemonic, word] := by
  have hlast : splitWords [] word = [word] := by
    simpa [splitWords, hw.1] using splitWords_wordChars hw.2 [] []
  rw [splitWords_wordChars hm.2]
  simp [splitWords, hm.1, hlast]

theorem stripComment_of_not_mem {line : List Char} (h : ';' ∉ line) : stripComment line = line := by
  refine List.takeWhile_eq_self_iff.mpr fun c hc => ?_
  simpa using fun heq : c = ';' => h (heq ▸ hc)

/-- What follows a semicolon is no part of the line. -/
theorem stripComment_append (line comment : List Char) :
    stripComment (line ++ ';' :: comment) = stripComment line := by
  induction line with
  | nil => rfl
  | cons c line ih =>
    simp only [stripComment, List.cons_append, List.takeWhile_cons] at ih ⊢
    rw [ih]

/-! ### The operation a line spells -/

/-- A line of a mnemonic and one word. -/
theorem assembleLine_two {line mnemonic word : List Char}
    {row : List Char × (List (List Char) → Except AsmError Instr)} (hline : line = mnemonic ++ ' ' :: word)
    (hrow : mnemonicTable.find? (fun row => row.1 == mnemonic) = some row)
    (hm : mnemonic ≠ [] ∧ ∀ c ∈ mnemonic, WordChar c) (hw : word ≠ [] ∧ ∀ c ∈ word, WordChar c) :
    assembleLine line = row.2 [word] := by
  have hcomment : ';' ∉ line := by
    simp only [hline, List.mem_append, List.mem_cons, not_or]
    exact ⟨fun h => (hm.2 _ h).2.2 rfl, by decide, fun h => (hw.2 _ h).2.2 rfl⟩
  have hwords : splitWords [] (stripComment line) = [mnemonic, word] := by
    rw [stripComment_of_not_mem hcomment, hline, splitWords_two hm hw]
  simp only [assembleLine, hwords, hrow]

/-- The lines of the three mnemonics that take an operand. -/
theorem assembleLine_writes {word : List Char} (hw : word ≠ [] ∧ ∀ c ∈ word, WordChar c) :
    assembleLine ("WRITE_TH ".toList ++ word) = withOperand .writeTh [word] ∧
      assembleLine ("WRITE_TL ".toList ++ word) = withOperand .writeTl [word] ∧
      assembleLine ("WRITE_CONFIG ".toList ++ word) = withOperand .writeConfig [word] :=
  ⟨assembleLine_two (mnemonic := "WRITE_TH".toList) (by simp) rfl (by simp [WordChar]) hw,
    assembleLine_two (mnemonic := "WRITE_TL".toList) (by simp) rfl (by simp [WordChar]) hw,
    assembleLine_two (mnemonic := "WRITE_CONFIG".toList) (by simp) rfl (by simp [WordChar]) hw⟩

theorem withOperand_of_some {word : List Char} {x : Operand} (h : parseOperand word = some x) (mk : Operand → Instr) :
    withOperand mk [word] = .ok (mk x) := by
  simp [withOperand, h]

theorem withOperand_of_none {word : List Char} (h : parseOperand word = none) (mk : Operand → Instr) :
    withOperand mk [word] = .error .badOperand := by
  simp [withOperand, h]

theorem withOperand_assemblerForm {mk : Operand → Instr} (hmk : ∀ x, (mk x).assemblerForm = true)
    (args : List (List Char)) (i : Instr) (h : withOperand mk args = .ok i) : i.assemblerForm = true := by
  unfold withOperand at h
  split at h
  · cases h
  · split at h
    · next x _ =>
      obtain rfl : mk x = i := by simpa using h
      exact hmk x
    · cases h
  · cases h

theorem withoutOperand_assemblerForm {mk : Operand → Instr} (hmk : (mk 0).assemblerForm = true)
    (args : List (List Char)) (i : Instr) (h : withoutOperand mk args = .ok i) : i.assemblerForm = true := by
  unfold withoutOperand at h
  split at h
  · obtain rfl : mk 0 = i := by simpa using h
    exact hmk
  · cases h

/-- Each mnemonic makes an operation of the assembler's form. -/
theorem mnemonicTable_assemblerForm : ∀ row ∈ mnemonicTable, ∀ (args : List (List Char)) (i : Instr),
    row.2 args = .ok i → i.assemblerForm = true := by
  simp only [mnemonicTable, List.forall_mem_cons]
  exact ⟨withoutOperand_assemblerForm rfl, withOperand_assemblerForm fun _ => rfl,
    withOperand_assemblerForm fun _ => rfl, withoutOperand_assemblerForm rfl, withoutOperand_assemblerForm rfl,
    withoutOperand_assemblerForm rfl, withoutOperand_assemblerForm rfl, withoutOperand_assemblerForm rfl,
    withoutOperand_assemblerForm rfl, withOperand_assemblerForm fun _ => rfl, withoutOperand_assemblerForm rfl,
    List.forall_mem_nil _⟩

theorem assembleLine_assemblerForm {line : List Char} {i : Instr} (h : assembleLine line = .ok i) :
    i.assemblerForm = true := by
  unfold assembleLine at h
  split at h
  · cases h
  · split at h
    · next row hrow => exact mnemonicTable_assemblerForm row (List.mem_of_find?_eq_some hrow) _ i h
    · cases h

/-- The first line's request word is its operation's. -/
theorem assemble_cons {line : List Char} {lines : List (List Char)} {i : Instr} {words : List Req}
    (hline : assembleLine line = .ok i) (hlines : assemble lines = .ok words) :
    assemble (line :: lines) = .ok (encode i :: words) := by
  simp [assemble, hline, hlines, Except.map]

/-- Settles O4: a word of digits has the value of its digits, which is an operand in range; the three writes hand their
one word to `parseOperand`; the other mnemonics spell their operation with operand 0. -/
theorem assemblerOperandRange : Obligations.AssemblerOperandRange := by
  unfold Obligations.AssemblerOperandRange
  refine ⟨fun ds hne hds => ?_, parseOperand_hex, fun word x hx => ?_, fun word hne hword hnone => ?_, by decide,
    by decide, by decide, by decide, by decide, by decide, by decide, by decide,
    fun line i => assembleLine_assemblerForm, fun line lines i words => assemble_cons, fun line comment => ?_⟩
  · rw [parseOperand_decimal hne hds, parseOperand_negative hne hds]
    exact ⟨fun h => operandOfInt_in_range (by omega) (by omega), fun h => operandOfInt_out_of_range (by omega),
      fun h => operandOfInt_in_range (by omega) (by omega), fun h => operandOfInt_out_of_range (by omega)⟩
  · obtain ⟨hth, htl, hconfig⟩ := assembleLine_writes (wordChar_of_parseOperand hx)
    rw [hth, htl, hconfig]
    exact ⟨withOperand_of_some hx _, withOperand_of_some hx _, withOperand_of_some hx _⟩
  · obtain ⟨hth, htl, hconfig⟩ := assembleLine_writes ⟨hne, hword⟩
    rw [hth, htl, hconfig]
    exact ⟨withOperand_of_none hnone _, withOperand_of_none hnone _, withOperand_of_none hnone _⟩
  · rw [assembleLine, stripComment_append, assembleLine]

end Sys2Proof.Proofs
end

section
/-! SUPPORT. The primitives (40_primitives.md R70 to R82): the effect of each micro-operation, and of BEGIN, END, TX8,
TX9 and RX9 as blocks. -/

namespace Sys2Proof.Proofs

open Sys2Proof.Machine Sys2Proof.Laws

/-! ### Micro-operations -/

/-- `SR` holds the frame at every `TXBIT`: the first loads it, the others find it there. -/
theorem txLoad_eq {f sr : Raw} {i : BitIndex} (h : i ≠ 0 → sr = f) : txLoad f i sr = f := by
  by_cases hi : i = 0
  · rw [hi, txLoad_zero]
  · rw [h hi, txLoad, ite_self]

/-- `TXBIT` of a frame that is loaded, or is so by its first bit. -/
theorem txBit_eq {f : Raw} {i : BitIndex} {s : State} (h : i ≠ 0 → s.sr = f) :
    txBit f i s = { s with
      sr := f
      dqL := .driven (levelOf (f.getLsbD i.val))
      bitIdx := i
      trace := s.trace ++ [.drive .dq (levelOf (f.getLsbD i.val))] } := by
  rw [txBit, txLoad_eq h]
  rfl

/-- A `TXBIT` after the first sends the bit that `SR` holds, whatever its frame. -/
theorem txBit_of_ne_zero (f : Raw) {i : BitIndex} (hi : i ≠ 0) (s : State) : txBit f i s = txBit s.sr i s := by
  have hval : i.val ≠ 0 := Fin.val_ne_zero_iff.mpr hi
  simp [txBit, txLoad, hval]

/-- `POST` writes what its post-processing does to `RESULT` and `STATUS`, and completes the request. -/
theorem post_eq (p : Post) (s : State) :
    post p s = { s with
      result := (applyPost p s).result
      status := (applyPost p s).status
      busy := false
      done := true
      completions := s.completions ++ [{
        result := (applyPost p s).result
        status := (applyPost p s).status
        done := true
        fault := s.fault }] } := by
  cases p <;> rfl

/-- Settles O8: each micro-operation is its fields' updates; the accumulator's bits are those of `orBit`. -/
theorem microOperationEffects : Obligations.MicroOperationEffects := by
  unfold Obligations.MicroOperationEffects
  refine ⟨fun s v => rfl, fun s v => rfl, fun s => rfl, fun s => rfl, fun s f => rfl, fun s f i hi => ?_, fun s => rfl,
    fun s i => ?_, fun s => rfl, fun s => rfl, fun s p => ⟨_, _, post_eq p s⟩⟩
  · exact (txBit_of_ne_zero f hi s).trans (txBit_eq fun _ => rfl)
  · refine ⟨bitOf (s.sampleLevel 0), orBit s.sr i (bitOf (s.sampleLevel 0)), orBit_getLsbD _ _ _, ?_⟩
    rw [List.drop_one]
    rfl

/-! ### BEGIN and END -/

theorem runBlock_beginBlock (s : State) : runBlock beginBlock s = { s with
    rstL := .driven .high
    clkL := .driven .high
    session := .opened
    trace := s.trace ++ beginEvents } := by
  simp [beginBlock, microStep, drv, platformCarriesOut, beginEvents]

theorem runBlock_endBlock (s : State) : runBlock endBlock s = { s with
    rstL := .driven .low
    session := .closed
    trace := s.trace ++ endEvents } := rfl

theorem runPrimitive_busy (ms : List MicroOp) {s : State} (hb : s.busy = true) :
    runPrimitive ms s = .refused .primitiveWhileBusy := by
  simp [runPrimitive, hb]

theorem runPrimitive_idle (ms : List MicroOp) {s : State} (hb : s.busy = false) :
    runPrimitive ms s = .next (runBlock ms s) := by
  simp [runPrimitive, hb]

theorem endSession_closed {s : State} (hs : s.session = .closed) : endSession s = .refused .endWithoutSession := by
  simp [endSession, hs]

theorem endSession_opened {s : State} (hs : s.session = .opened) : endSession s = runPrimitive endBlock s := by
  simp [endSession, hs]

/-- Settles O45: the blocks are their three and one drives; `endSession` asks for an open session and both for an idle
engine. -/
theorem sessionFraming : Obligations.SessionFraming := by
  unfold Obligations.SessionFraming
  refine ⟨runBlock_beginBlock, runBlock_endBlock, fun s => endSession_closed, fun s hs hb => ?_, fun s hb => ?_⟩
  · rw [endSession_opened hs, runPrimitive_idle _ hb]
  · exact ⟨runPrimitive_busy _ hb, fun hs => by rw [endSession_opened hs, runPrimitive_busy _ hb]⟩

/-! ### The bit indexes, one after another -/

theorem bitIndexes_take_succ {n : Nat} (hn : n < 9) :
    bitIndexes.take (n + 1) = bitIndexes.take n ++ [(⟨n, hn⟩ : BitIndex)] := by
  have hall : bitIndexes = List.finRange 9 := rfl
  rw [hall, List.take_add_one, List.getElem?_eq_getElem (by simpa using hn), List.getElem_finRange]
  rfl

theorem lsbFirst_succ {w : Nat} (n : Nat) (v : BitVec w) : lsbFirst (n + 1) v = lsbFirst n v ++ [v.getLsbD n] := by
  simp [lsbFirst, List.range_succ]

theorem lsbFirst_frame8 (c : Command) : lsbFirst 8 (frame8 c) = lsbFirst 8 c := by
  refine List.map_congr_left fun i hi => ?_
  have hlt : i < 9 := (List.mem_range.mp hi).trans (by decide)
  simp [frame8, hlt]

/-! ### TX8 and TX9 -/

/-- One bit of a transmission: the drive of DQ and the pulse. -/
def txPulse (f : Raw) (i : BitIndex) : List MicroOp := [.txBit f i, .drv .clk .low, .drv .clk .high]

theorem tx_eq_flatMap (n : Nat) (f : Raw) : tx n f = (bitIndexes.take n).flatMap (txPulse f) := rfl

theorem tx_succ {n : Nat} (hn : n < 9) (f : Raw) : tx (n + 1) f = tx n f ++ txPulse f ⟨n, hn⟩ := by
  simp [tx_eq_flatMap, bitIndexes_take_succ hn]

theorem runBlock_txPulse {f : Raw} {i : BitIndex} {s : State} (h : i ≠ 0 → s.sr = f) :
    runBlock (txPulse f i) s = { s with
      sr := f
      dqL := .driven (levelOf (f.getLsbD i.val))
      clkL := .driven .high
      bitIdx := i
      trace := s.trace ++ sentEvents [f.getLsbD i.val] } := by
  simp [txPulse, microStep, txBit_eq h, drv, platformCarriesOut, sentEvents, pulse]

/-- The first bits of a frame, up to bit n. -/
theorem runBlock_tx (f : Raw) (s : State) {n : Nat} (hn : n < 9) :
    runBlock (tx (n + 1) f) s = { s with
      sr := f
      dqL := .driven (levelOf (f.getLsbD n))
      clkL := .driven .high
      bitIdx := ⟨n, hn⟩
      trace := s.trace ++ sentEvents (lsbFirst (n + 1) f) } := by
  induction n with
  | zero => exact runBlock_txPulse (i := 0) fun h => absurd rfl h
  | succ n ih =>
    rw [tx_succ hn, runBlock_append, ih (by omega), runBlock_txPulse (f := f) fun _ => rfl, lsbFirst_succ (n + 1)]
    simp [sentEvents]

/-- Settles O46: each bit of the frame is a drive of DQ and a pulse, and the frame stays in `SR` from the first on. -/
theorem transmissionFrames : Obligations.TransmissionFrames := by
  unfold Obligations.TransmissionFrames
  refine ⟨fun s c => ?_, fun s v => runBlock_tx v s (n := 8) (by decide)⟩
  have hbit : (frame8 c).getLsbD 7 = c.getLsbD 7 := by simp [frame8]
  rw [tx8, runBlock_tx (frame8 c) s (n := 7) (by decide), lsbFirst_frame8, hbit]
  rfl

/-! ### RX9 -/

/-- The accumulator after n bits: bit i is ORed in at its place (40_primitives.md R82). -/
def orBits (b : BitIndex → Bool) (n : Nat) (r : Raw) : Raw :=
  (bitIndexes.take n).foldl (fun v i => orBit v i (b i)) r

theorem orBits_succ (b : BitIndex → Bool) {n : Nat} (hn : n < 9) (r : Raw) :
    orBits b (n + 1) r = orBit (orBits b n r) ⟨n, hn⟩ (b ⟨n, hn⟩) := by
  simp [orBits, bitIndexes_take_succ hn]

theorem orBits_getLsbD (b : BitIndex → Bool) {n : Nat} (hn : n ≤ 9) (r : Raw) (i : BitIndex) :
    (orBits b n r).getLsbD i.val = (r.getLsbD i.val || (decide (i.val < n) && b i)) := by
  induction n with
  | zero => simp [orBits]
  | succ n ih =>
    rw [orBits_succ b hn, orBit_getLsbD, ih (by omega)]
    obtain hlt | heq | hgt := Nat.lt_trichotomy i.val n
    · simp [hlt, hlt.ne, Nat.lt_succ_of_lt hlt]
    · obtain rfl : i = ⟨n, hn⟩ := Fin.ext heq
      simp
    · simp [hgt.ne', show ¬ i.val < n by omega, show ¬ i.val < n + 1 by omega]

/-- After all nine, from an empty accumulator, bit i is the i-th bit. -/
theorem orBits_all_getLsbD (b : BitIndex → Bool) (i : BitIndex) : (orBits b 9 0).getLsbD i.val = b i := by
  rw [orBits_getLsbD b le_rfl]
  simp

/-- A state n samples on presents the later samples of the first. -/
theorem sampleLevel_add {s t : State} {n : Nat} (hresponder : t.responder = s.responder.drop n)
    (hdraws : t.draws = s.draws + n) (k : Nat) : t.sampleLevel k = s.sampleLevel (n + k) := by
  simp only [State.sampleLevel, hresponder, hdraws, List.getElem?_drop, Nat.add_assoc]

/-- The bit of the coming sample that goes into bit i. -/
def sampledBit (s : State) (i : BitIndex) : Bool := bitOf (s.sampleLevel i.val)

@[simp] theorem rxBegin_sampleLevel (s : State) (k : Nat) : (rxBegin s).sampleLevel k = s.sampleLevel k := rfl

@[simp] theorem rxBegin_sampledBit (s : State) : sampledBit (rxBegin s) = sampledBit s := rfl

/-- One bit of a reception: the sample inside its pulse. -/
def rxPulse (i : BitIndex) : List MicroOp := [.drv .clk .low, .rxBit i, .drv .clk .high]

/-- The line events of one bit of a reception. -/
def rxPulseEvents (b : Bool) : List Event := [.drive .clk .low, .sample b, .drive .clk .high]

theorem rx9_eq : rx9 = [.rxBegin] ++ (bitIndexes.take 9).flatMap rxPulse ++ [.rxEnd] := rfl

theorem receivedEvents_eq (bits : List Bool) :
    receivedEvents bits = [.dir .dq .input] ++ bits.flatMap rxPulseEvents ++ [.dir .dq .output] := rfl

theorem runBlock_rxPulse (i : BitIndex) (s : State) :
    runBlock (rxPulse i) s = { s with
      clkL := .driven .high
      sr := orBit s.sr i (bitOf (s.sampleLevel 0))
      bitIdx := i
      responder := s.responder.drop 1
      draws := s.draws + 1
      trace := s.trace ++ rxPulseEvents (bitOf (s.sampleLevel 0)) } := by
  have hsample : (drv .clk .low s).sampleLevel 0 = s.sampleLevel 0 := rfl
  simp only [rxPulse, runBlock_cons, runBlock_nil, microStep, rxBit, hsample]
  simp [drv, responderStep, platformCarriesOut, rxPulseEvents]

/-- The first bits of a reception, up to bit n. -/
theorem runBlock_rxPulses (s : State) {n : Nat} (hn : n < 9) :
    runBlock ((bitIndexes.take (n + 1)).flatMap rxPulse) s = { s with
      clkL := .driven .high
      sr := orBits (sampledBit s) (n + 1) s.sr
      bitIdx := ⟨n, hn⟩
      responder := s.responder.drop (n + 1)
      draws := s.draws + (n + 1)
      trace := s.trace ++ ((List.range (n + 1)).map fun k => bitOf (s.sampleLevel k)).flatMap rxPulseEvents } := by
  induction n with
  | zero => exact runBlock_rxPulse 0 s
  | succ n ih =>
    rw [bitIndexes_take_succ hn, List.flatMap_append, runBlock_append, ih (by omega), List.flatMap_singleton,
      runBlock_rxPulse, sampleLevel_add (s := s) rfl rfl, orBits_succ _ hn, List.range_succ (n := n + 1)]
    simp [sampledBit, Nat.add_assoc]

/-- Settles O47: between the two direction changes each bit is a sample inside its pulse, ORed in at its place. -/
theorem receptionFrame : Obligations.ReceptionFrame := by
  unfold Obligations.ReceptionFrame
  intro s
  refine ⟨orBits (sampledBit s) 9 0, fun i hi => orBits_all_getLsbD (sampledBit s) ⟨i, hi⟩, ?_⟩
  rw [rx9_eq, runBlock_append, runBlock_append, runBlock_rxPulses _ (n := 8) (by decide), receivedEvents_eq]
  simp [microStep, rxEnd, platformCarriesOut, State.samples]

/-! ### The shift realisation of RX9 -/

/-- One sample shifted in at bit 8 (40_primitives.md R82). -/
def shiftIn (v : Raw) (bit : Bool) : Raw := (v >>> 1) ||| (if bit then 0x100#9 else 0#9)

theorem shiftIn_getLsbD_top (v : Raw) (bit : Bool) : (shiftIn v bit).getLsbD 8 = bit := by
  cases bit <;> simp [shiftIn]

theorem shiftIn_getLsbD_below (v : Raw) (bit : Bool) {j : Nat} (hj : j < 8) :
    (shiftIn v bit).getLsbD j = v.getLsbD (j + 1) := by
  have hbit : (0x100#9).getLsbD j = false := by interval_cases j <;> rfl
  cases bit <;> simp [shiftIn, hbit, Nat.add_comm]

/-- The bits shifted in so far stand at the top, in order. -/
theorem shiftIn_foldl_getLsbD (b : BitIndex → Bool) (r : Raw) {n : Nat} (hn : n ≤ 9) (i : BitIndex) (hi : i.val < n) :
    ((bitIndexes.take n).foldl (fun v i => shiftIn v (b i)) r).getLsbD (9 - n + i.val) = b i := by
  induction n with
  | zero => exact absurd hi (Nat.not_lt_zero _)
  | succ n ih =>
    rw [bitIndexes_take_succ hn, List.foldl_append, List.foldl_cons, List.foldl_nil]
    obtain hlt | heq := Nat.lt_succ_iff_lt_or_eq.mp hi
    · rw [shiftIn_getLsbD_below _ _ (by omega), ← ih (by omega) hlt]
      congr 1
      omega
    · obtain rfl : i = ⟨n, hn⟩ := Fin.ext heq
      rw [show 9 - (n + 1) + n = 8 by omega, shiftIn_getLsbD_top]

/-- Settles O48: after nine samples either realisation holds the i-th in bit i. -/
theorem shiftRealisationAgrees : Obligations.ShiftRealisationAgrees := by
  unfold Obligations.ShiftRealisationAgrees
  intro b r
  refine BitVec.eq_of_getLsbD_eq fun i hi => ?_
  have hshift := shiftIn_foldl_getLsbD b r le_rfl ⟨i, hi⟩ hi
  rw [Nat.sub_self, Nat.zero_add] at hshift
  exact hshift.trans (orBits_all_getLsbD b ⟨i, hi⟩).symm

end Sys2Proof.Proofs
end

section
/-! SUPPORT. The engine's step (40_primitives.md R71): ACCEPT, the rejection, the micro-operation at `UPC`; and the
command that an operation's first session sends (R76). -/

namespace Sys2Proof.Proofs

open Sys2Proof.Machine Sys2Proof.Laws

/-! ### `exec` and `step` in an idle engine -/

/-- Settles O7: `exec` of an operation in an idle engine is its ACCEPT. -/
theorem idleEngineAcceptsEveryOperation : Obligations.IdleEngineAcceptsEveryOperation := by
  unfold Obligations.IdleEngineAcceptsEveryOperation
  intro i s hb
  rw [exec_eq, engineStep_idle hb]
  rfl

theorem step_idle_empty {s : State} (hb : s.busy = false) (hr : s.requests = []) : step s = .next s := by
  simp [step, currentWord, hb, hr, idleStep]

theorem decodeWord_of_decodeTableWord {nbits w : Nat} {i : Instr} (h : decodeTableWord nbits w = some i) :
    decodeWord (reqOfBits nbits w) = .ok i := by
  unfold decodeTableWord at h
  split at h
  · next j hj => rw [hj, Option.some.inj h]
  · cases h

/-- Settles O5: the current word is the latched one while busy, else the presented one, which `withFetchWord` puts
first. -/
theorem stepRunsDecodedOperation : Obligations.StepRunsDecodedOperation :=
  ⟨fun _ _ => step_busy, fun _ _ _ _ ⟨hb, hr⟩ => step_idle hb hr,
    fun _ _ _ _ hd => step_idle rfl rfl (decodeWord_of_decodeTableWord hd), fun _ => step_idle_empty⟩

theorem presents_tail {s : State} {w : Req} {rest : List Req} (hw : s.presents w rest) : s.requests.tail = rest := by
  obtain ⟨-, hr⟩ := hw
  rw [hr, List.tail_cons]

theorem step_presents {s : State} {w : Req} {rest : List Req} (hw : s.presents w rest) (hop : (reqOp w).toNat < 0xB) :
    step s = .next (accept (reqOp w) (reqOperand w) s) := by
  obtain ⟨hb, hr⟩ := hw
  obtain ⟨i, hd⟩ := (decodeWord_ok_iff w).mpr hop
  obtain ⟨ho, hx⟩ := decodeFields_ok hd
  rw [step_idle hb hr hd, exec_eq, engineStep_idle hb, ho, hx]

theorem step_presents_reserved {s : State} {w : Req} {rest : List Req} (hw : s.presents w rest)
    (hop : 0xB ≤ (reqOp w).toNat) : step s = .next (raiseIllegalOp (reqOp w) s) :=
  step_idle_reserved hw (decodeFields_reserved hop _)

/-! ### The micro-operation at `UPC` -/

theorem decodeWord_latched {s : State} {i : Instr} (ho : s.op = i.opcode) (hx : s.operand = i.operand) :
    decodeWord (reqWord s.operand s.op) = .ok i := by
  rw [ho, hx]
  exact decodeWord_encode i

/-- `exec` of the operation being carried out takes the next move of the micro-operation at `UPC`. -/
theorem exec_move {s : State} {i : Instr} {k : Nat} {m : MicroOp} (hs : s.carryingOut i k)
    (hm : (program s.cfg i)[k]? = some m) : exec i s = .next (microMove m s) := by
  obtain ⟨hb, ho, hx, rfl⟩ := hs
  rw [exec_eq, engineStep_busy hb ho hx, carryOut_eq hm]

/-- The last entry of a micro-program is its POST. -/
theorem program_last {c : Config} {i : Instr} {k : Nat} (hk : k + 1 = (program c i).length) :
    (program c i)[k]? = some (.post (postOf i)) := by
  obtain ⟨ops, g, hprog, -⟩ := program_shape c i (f := framingAtReset) (.inl rfl)
  obtain rfl : k = ops.length := by simpa [hprog] using hk
  simp [hprog]

/-- Settles O6: an idle engine accepts or rejects the word it is presented; a busy one takes the move of the
micro-operation at `UPC`, of which only the last is a POST. -/
theorem engineStepRule : Obligations.EngineStepRule := by
  unfold Obligations.EngineStepRule
  refine ⟨fun s w rest hw hop => ?_, fun s w rest hw hop => ?_, fun s i m hb ho hx hm hne => ?_,
    fun s i hb ho hx hm => ⟨fun hnone => ?_, fun hsome => ?_⟩, fun c i k _ => ?_⟩
  · rw [step_presents hw hop, accept, presents_tail hw]
    rfl
  · rw [step_presents_reserved hw hop, raiseIllegalOp, presents_tail hw]
  · refine ⟨?_, microStep_requests m s⟩
    rw [step_move hb (decodeWord_latched ho hx) hm, microMove_of_ne hne, advance, microStep_upc]
  · rw [step_move hb (decodeWord_latched ho hx) hm, microMove_wait_issue hnone]
    rfl
  · obtain ⟨ms, hms⟩ := Option.ne_none_iff_exists'.mp hsome
    rw [step_move hb (decodeWord_latched ho hx) hm, microMove_wait_end hms]
    rfl
  · exact ⟨fun ⟨_, hp⟩ => (post_in_program hp).1, fun hk => ⟨_, program_last hk⟩⟩

/-! ### The command on the wire -/

theorem tx_length {n : Nat} (hn : n ≤ 9) (f : Raw) : (tx n f).length = 3 * n := by
  induction n with
  | zero => rfl
  | succ n ih =>
    rw [tx_succ hn, List.length_append, ih (by omega)]
    rfl

/-- Bit k of a transmission is sent by its entry 3k. -/
theorem tx_getElem? {n : Nat} (hn : n ≤ 9) (f : Raw) {k : BitIndex} (hk : k.val < n) :
    (tx n f)[3 * k.val]? = some (.txBit f k) := by
  induction n with
  | zero => exact absurd hk (Nat.not_lt_zero _)
  | succ n ih =>
    have hlen : (tx n f).length = 3 * n := tx_length (by omega) f
    rw [tx_succ hn]
    obtain hlt | heq := Nat.lt_succ_iff_lt_or_eq.mp hk
    · rw [List.getElem?_append_left (by omega), ih (by omega) hlt]
    · obtain rfl : k = ⟨n, hn⟩ := Fin.ext heq
      rw [List.getElem?_append_right hlen.le, hlen, Nat.sub_self]
      rfl

/-- An operation that opens a session begins with BEGIN and its command (40_primitives.md R72). -/
theorem program_begins (c : Config) {i : Instr} (hi : opensSession i = true) :
    ∃ rest, program c i = beginBlock ++ (tx8 (firstCommand c i) ++ rest) := by
  cases i with
  | readTemp | readTh | readTl | readCounter | readSlope | readConfig | writeTh | writeTl | startConvert
  | stopConvert => exact ⟨_, rfl⟩
  | writeConfig x =>
    have hx : 0 < x.toInt := by simpa [opensSession] using hi
    rw [program, progWriteConfig, writeConfigProgram_accepted _ _ hx]
    exact ⟨_, rfl⟩

theorem program_commandBit (c : Config) {i : Instr} (hi : opensSession i = true) {k : BitIndex} (hk : k.val < 8) :
    (program c i)[3 + 3 * k.val]? = some (.txBit (frame8 (firstCommand c i)) k) := by
  obtain ⟨rest, hprog⟩ := program_begins c hi
  have hlen : (tx8 (firstCommand c i)).length = 24 := rfl
  have hbegin : beginBlock.length = 3 := rfl
  rw [hprog, List.getElem?_append_right (by omega), hbegin, Nat.add_sub_cancel_left,
    List.getElem?_append_left (by omega), tx8, tx_getElem? (by decide) _ hk]

/-- Settles O23: the entry 3 + 3k of the program is the `TXBIT` of the command's bit k. -/
theorem commandBitsOnTheWire : Obligations.CommandBitsOnTheWire := by
  unfold Obligations.CommandBitsOnTheWire
  intro i s k hi hk hs hsr
  have hbit : (frame8 (firstCommand s.cfg i)).getLsbD k.val = (firstCommand s.cfg i).getLsbD k.val := by
    simp [frame8]
  rw [exec_move hs (program_commandBit s.cfg hi hk), microMove_of_ne (by simp), microStep,
    txBit_eq (f := frame8 _) hsr, hbit, advance]
  obtain ⟨-, -, -, hupc⟩ := hs
  rw [hupc, show 3 + 3 * k.val + 1 = 4 + 3 * k.val by omega]
  rfl

end Sys2Proof.Proofs
end

section
/-! SUPPORT. The codec (41_codec.md R85 to R91): the temperature decode as halved two's complement, and the threshold
frame with its two decodes. -/

namespace Sys2Proof.Proofs

open Sys2Proof.Machine

/-! ### The temperature decode -/

/-- Bit 8 of a raw value is its sign (41_codec.md R86). -/
theorem raw_toInt_of_bit8_clear {v : Raw} (h : v.getLsbD 8 = false) : v.toInt = v.toNat := by
  rw [BitVec.toInt_eq_msb_cond, BitVec.msb_eq_getLsbD_last, h]
  rfl

theorem raw_toInt_of_bit8_set {v : Raw} (h : v.getLsbD 8 = true) : v.toInt = v.toNat - 512 := by
  rw [BitVec.toInt_eq_msb_cond, BitVec.msb_eq_getLsbD_last, h]
  rfl

theorem raw_le_toInt (v : Raw) : -256 ≤ v.toInt := v.le_toInt

theorem raw_toInt_lt (v : Raw) : v.toInt < 256 := v.toInt_lt

theorem raw_bit0_iff (v : Raw) : v.getLsbD 0 = true ↔ v.toNat % 2 = 1 := by
  rw [← BitVec.testBit_toNat, Nat.testBit_zero, decide_eq_true_iff]

theorem lowByte_toNat {w : Nat} (v : BitVec w) : (v.extractLsb' 0 8).toNat = v.toNat % 256 :=
  BitVec.extractLsb'_toNat 0 8 v

/-- The signed magnitude that the steps of R85 halve is the two's complement value. -/
theorem decodeTemp_eq_tdiv (v : Raw) : decodeTemp v = v.toInt.tdiv 2 := by
  have hmag := lowByte_toNat v
  have hlow := raw_le_toInt v
  have hhigh := raw_toInt_lt v
  refine congrArg (Int.tdiv · 2) ?_
  cases h : v.getLsbD 8 with
  | false =>
    have hint := raw_toInt_of_bit8_clear h
    change ((v.extractLsb' 0 8).toNat : Int) = v.toInt
    omega
  | true =>
    have hint := raw_toInt_of_bit8_set h
    change -(0x100 - ((v.extractLsb' 0 8).toNat : Int)) = v.toInt
    omega

/-- Bit 8 clear: the half, rounded down. -/
theorem decodeTemp_of_bit8_clear {v : Raw} (h : v.getLsbD 8 = false) : decodeTemp v = v.toInt / 2 := by
  rw [decodeTemp_eq_tdiv, raw_toInt_of_bit8_clear h]
  exact Int.tdiv_eq_ediv_of_nonneg (Int.natCast_nonneg _)

/-- Bit 8 set: the half, rounded up. -/
theorem decodeTemp_of_bit8_set {v : Raw} (h : v.getLsbD 8 = true) : decodeTemp v = (v.toInt + 1) / 2 := by
  have hneg : v.toInt < 0 := by
    have hint := raw_toInt_of_bit8_set h
    have hv := v.isLt
    omega
  have hpos : (-v.toInt).tdiv 2 = -v.toInt / 2 := Int.tdiv_eq_ediv_of_nonneg (by omega)
  rw [Int.neg_tdiv] at hpos
  rw [decodeTemp_eq_tdiv]
  omega

theorem raw_toInt_shiftRight_one (v : Raw) : v.toInt >>> 1 = v.toInt / 2 :=
  (Int.shiftRight_natCast_right v.toInt 1).trans (Int.shiftRight_eq_div_pow v.toInt 1)

/-- Settles O50: with bit 8 clear the decode and the shift both round down; with bit 8 set the decode rounds up. -/
theorem decodeTempIsHalvedTwosComplement : Obligations.DecodeTempIsHalvedTwosComplement := by
  unfold Obligations.DecodeTempIsHalvedTwosComplement
  intro v
  have hlow := raw_le_toInt v
  have hhigh := raw_toInt_lt v
  refine ⟨decodeTemp_eq_tdiv v, ?_⟩
  rw [raw_toInt_shiftRight_one, raw_bit0_iff]
  cases h : v.getLsbD 8 with
  | false =>
    rw [decodeTemp_of_bit8_clear h]
    exact ⟨by omega, by omega, iff_of_false (not_not_intro rfl) nofun, nofun⟩
  | true =>
    have hint := raw_toInt_of_bit8_set h
    rw [decodeTemp_of_bit8_set h]
    refine ⟨by omega, by omega, ?_, fun hodd _ => by omega⟩
    rw [and_iff_left rfl]
    omega

/-- Settles O51, by evaluation. -/
theorem negativeZeroDecodes : Obligations.NegativeZeroDecodes := by
  unfold Obligations.NegativeZeroDecodes
  decide

/-- Settles O52: an odd value is halved down with bit 8 clear, up with bit 8 set. -/
theorem oddValuesTruncateTowardZero : Obligations.OddValuesTruncateTowardZero := by
  refine ⟨fun v hclear hodd => ?_, fun v hset hodd => ?_, by decide⟩
  · have hmod := (raw_bit0_iff v).mp hodd
    rw [decodeTemp_of_bit8_clear hclear, raw_toInt_of_bit8_clear hclear]
    omega
  · have hmod := (raw_bit0_iff v).mp hodd
    rw [decodeTemp_of_bit8_set hset, raw_toInt_of_bit8_set hset]
    omega

/-! ### The threshold frame -/

theorem operand_lowByte_toNat (x : Operand) : ((x.extractLsb' 0 8).toNat : Int) = x.toInt % 256 := by
  rw [lowByte_toNat, BitVec.toInt_eq_toNat_cond]
  split <;> omega

theorem operand_lowByte_toInt (x : Operand) : (x.extractLsb' 0 8).toInt = x.toInt.bmod 256 := by
  rw [BitVec.toInt_eq_toNat_bmod, operand_lowByte_toNat]
  exact Int.emod_bmod x.toInt 256

theorem encodeTh_toNat (x : Operand) : ((encodeTh x).toNat : Int) = 2 * x.toInt % 512 := by
  rw [encodeTh, BitVec.toNat_ofInt]
  omega

/-- The encoded frame is the operand's low byte above a 0 (41_codec.md R90). -/
theorem encodeTh_eq_append (x : Operand) : encodeTh x = x.extractLsb' 0 8 ++ 0#1 := by
  apply BitVec.eq_of_toNat_eq
  have hframe := encodeTh_toNat x
  have hlow := operand_lowByte_toNat x
  rw [BitVec.toNat_append, BitVec.toNat_zero, Nat.or_zero, Nat.shiftLeft_eq]
  omega

/-- Settles O53: doubling mod 2^9 shifts the low byte up by one place. -/
theorem encodeThreshold : Obligations.EncodeThreshold := by
  unfold Obligations.EncodeThreshold
  intro x
  have hbit0 : (encodeTh x).getLsbD 0 = false := by
    rw [encodeTh_eq_append, BitVec.getLsbD_append]
    rfl
  exact ⟨encodeTh_toNat x, encodeTh_eq_append x, hbit0⟩

theorem decodeTh_encodeTh (x : Operand) : decodeTh (encodeTh x) = (x.extractLsb' 0 8).toNat := by
  have hframe := encodeTh_toNat x
  have hlow := operand_lowByte_toNat x
  rw [decodeTh]
  omega

/-- The frame's signed value is twice that of the low byte, so halving it is exact. -/
theorem decodeTemp_encodeTh (x : Operand) : decodeTemp (encodeTh x) = (x.extractLsb' 0 8).toInt := by
  rw [decodeTemp_eq_tdiv, encodeTh_eq_append, BitVec.toInt_append_zero]
  exact Int.mul_tdiv_cancel_left _ (by decide)

/-- Settles O54: the round trips give the low byte, unsigned and signed, which is the operand where that fits it. -/
theorem thresholdRoundTrips : Obligations.ThresholdRoundTrips := by
  unfold Obligations.ThresholdRoundTrips
  intro x
  refine ⟨decodeTh_encodeTh x, ?_, decodeTemp_encodeTh x, ?_⟩
  · rw [decodeTh_encodeTh, operand_lowByte_toNat]
    omega
  · rw [decodeTemp_encodeTh, operand_lowByte_toInt, Int.bmod_eq_iff (by decide)]
    omega

end Sys2Proof.Proofs
end

section
/-! SUPPORT. The read operations (42_read_ops.md): what each one's micro-program and POST are, the session of a read as
one block, and a read whole. -/

namespace Sys2Proof.Proofs

open Sys2Proof.Machine Sys2Proof.Laws

/-! ### What a read returns -/

theorem resultTemp_eq (v : Raw) : resultTemp v = BitVec.ofInt 16 (v.toInt.tdiv 2) := by
  rw [resultTemp, decodeTemp_eq_tdiv]

theorem resultRaw9_eq (v : Raw) : resultRaw9 v = BitVec.ofNat 16 v.toNat :=
  (BitVec.ofNat_toNat 16 v).symm

theorem resultCfg_eq (v : Raw) : resultCfg v = BitVec.ofNat 16 (v.toNat % 256) := by
  rw [resultCfg, ← cfgRead_toNat, BitVec.ofNat_toNat]

section ReadProgram

variable {c : Config} {i : Instr} {cmd : Command} {f : Raw → Result}

/-- A read's micro-program is `READ` of its command and post-processing (40_primitives.md R72). -/
theorem program_read (h : readsAs c i = some (cmd, f)) : program c i = readProgram cmd (postOf i) := by
  cases i with
  | readTemp | readTh | readTl | readCounter | readSlope | readConfig =>
    cases h
    rfl
  | writeTh | writeTl | startConvert | stopConvert | writeConfig => cases h

/-- A read's post-processing writes its function of `SR` to `RESULT`. -/
theorem applyPost_read (h : readsAs c i = some (cmd, f)) (s : State) :
    applyPost (postOf i) s = { s with result := f s.sr } := by
  cases i with
  | readTemp =>
    cases h
    simp only [postOf, applyPost, resultTemp_eq]
  | readTh | readTl =>
    cases h
    rfl
  | readCounter | readSlope =>
    cases h
    simp only [postOf, applyPost, resultRaw9_eq]
  | readConfig =>
    cases h
    simp only [postOf, applyPost, resultCfg_eq]
  | writeTh | writeTl | startConvert | stopConvert | writeConfig => cases h

end ReadProgram

/-! ### The POST of a read -/

/-- The state as a read's POST leaves it, with `RESULT` as its post-processing computes it. -/
def afterRead (f : Raw → Result) (s : State) : State := { s with
  result := f s.sr
  busy := false
  done := true
  upc := 58
  completions := s.completions ++ [{ result := f s.sr, status := s.status, done := true, fault := s.fault }] }

/-- A read's 58th and last entry is its POST, which completes it. -/
theorem exec_read_post {s : State} {i : Instr} {cmd : Command} {f : Raw → Result}
    (h : readsAs s.cfg i = some (cmd, f)) (hs : s.carryingOut i 57) : exec i s = .next (afterRead f s) := by
  have hlast : 57 + 1 = (program s.cfg i).length := by rw [program_read h, readProgram_length]
  rw [exec_move hs (program_last hlast), microMove_of_ne (by simp), microStep, post, applyPost_read h, complete,
    advance]
  obtain ⟨-, -, -, hupc⟩ := hs
  rw [hupc]
  rfl

/-- Settles O16, as an instance of the POST of any read. -/
theorem readTempResult : Obligations.ReadTempResult := by
  unfold Obligations.ReadTempResult
  intro s x hs
  exact exec_read_post rfl hs

/-- Settles O17: the two reads differ in their command alone. -/
theorem readThresholdResult : Obligations.ReadThresholdResult := by
  unfold Obligations.ReadThresholdResult
  rintro s i x (rfl | rfl) hs <;> exact exec_read_post rfl hs

/-- Settles O18: the two reads differ in their command alone. -/
theorem readRawResult : Obligations.ReadRawResult := by
  unfold Obligations.ReadRawResult
  rintro s i x (rfl | rfl) hs <;> exact exec_read_post rfl hs

/-- Settles O19, as an instance of the POST of any read. -/
theorem readConfigResult : Obligations.ReadConfigResult := by
  unfold Obligations.ReadConfigResult
  intro s x hs
  exact exec_read_post rfl hs

/-! ### The sampled frame -/

/-- The bits of a number that is folded from its bits, least significant first. -/
theorem testBit_foldr_bits (bits : List Bool) (k : Nat) :
    (bits.foldr (fun (b : Bool) n => b.toNat + 2 * n) 0).testBit k = bits.getD k false := by
  induction bits generalizing k with
  | nil => simp
  | cons b bits ih =>
    rw [List.foldr_cons, Nat.add_comm, ← Nat.bit_val]
    cases k with
    | zero => rw [Nat.testBit_bit_zero, List.getD_cons_zero]
    | succ k => rw [Nat.testBit_bit_succ, ih, List.getD_cons_succ]

/-- Bit i of the frame is the i-th coming sample (40_primitives.md R82). -/
theorem sampledFrame_getLsbD (s : State) {i : Nat} (hi : i < 9) :
    s.sampledFrame.getLsbD i = bitOf (s.sampleLevel i) := by
  rw [State.sampledFrame, BitVec.getLsbD_ofNat, testBit_foldr_bits, State.samples]
  simp [hi]

/-- RX9 leaves the nine samples in `SR` (40_primitives.md R80). -/
theorem runBlock_rx9 (s : State) : runBlock rx9 s = { s with
    dqDir := .output
    clkL := .driven .high
    sr := s.sampledFrame
    bitIdx := 8
    responder := s.responder.drop 9
    draws := s.draws + 9
    trace := s.trace ++ receivedEvents s.samples } := by
  obtain ⟨r, hbits, hrun⟩ := receptionFrame s
  have hframe : r = s.sampledFrame :=
    BitVec.eq_of_getLsbD_eq fun i hi => (hbits i hi).trans (sampledFrame_getLsbD s hi).symm
  rw [hrun, hframe]

/-! ### The session of a read -/

/-- The line operations of `READ(c, p)`, its POST left out (40_primitives.md R72). -/
def readSession (c : Command) : List MicroOp := beginBlock ++ tx8 c ++ rx9 ++ endBlock

theorem readProgram_eq (c : Command) (p : Post) : readProgram c p = readSession c ++ [.post p] := rfl

theorem post_not_mem_readSession (c : Command) (p : Post) : .post p ∉ readSession c :=
  (leads_readSession (.inr rfl) c).post_not_mem p

theorem wait_not_mem_readSession (c : Command) : .wait ∉ readSession c :=
  fun h => wait_not_mem_readProgram c .nothing (List.mem_append_left _ h)

/-- BEGIN, the command, the reception and END, one after another. -/
theorem runBlock_readSession (c : Command) (s : State) : runBlock (readSession c) s = { s with
    rstL := .driven .low
    clkL := .driven .high
    dqL := .driven (levelOf (c.getLsbD 7))
    dqDir := .output
    session := .closed
    sr := s.sampledFrame
    bitIdx := 8
    responder := s.responder.drop 9
    draws := s.draws + 9
    trace := s.trace ++ readEvents c s.samples } := by
  obtain ⟨htx8, -⟩ := transmissionFrames
  rw [readSession, runBlock_append, runBlock_append, runBlock_append, runBlock_beginBlock, htx8, runBlock_rx9,
    runBlock_endBlock, readEvents, ← List.append_assoc, ← List.append_assoc, ← List.append_assoc]
  rfl

/-! ### How many events and pulses a frame has (70_reset_and_hazards.md R138) -/

theorem pulses_append (es fs : List Event) : pulses (es ++ fs) = pulses es + pulses fs := List.count_append

theorem sentEvents_length (bits : List Bool) : (sentEvents bits).length = 3 * bits.length := by
  simp [sentEvents, pulse, List.length_flatMap, Nat.mul_comm]

theorem receivedEvents_length (bits : List Bool) : (receivedEvents bits).length = 3 * bits.length + 2 := by
  simp [receivedEvents, List.length_flatMap, Nat.mul_comm]

/-- Every bit sent has one pulse. -/
theorem pulses_sentEvents (bits : List Bool) : pulses (sentEvents bits) = bits.length := by
  induction bits with
  | nil => rfl
  | cons b bits ih =>
    rw [show sentEvents (b :: bits) = (.drive .dq (levelOf b) :: pulse) ++ sentEvents bits from rfl, pulses_append, ih]
    simp [pulses, pulse, Nat.add_comm]

/-- Every bit received has one pulse. -/
theorem pulses_rxPulseEvents (bits : List Bool) : pulses (bits.flatMap rxPulseEvents) = bits.length := by
  induction bits with
  | nil => rfl
  | cons b bits ih =>
    rw [List.flatMap_cons, pulses_append, ih]
    simp [pulses, rxPulseEvents, Nat.add_comm]

theorem pulses_receivedEvents (bits : List Bool) : pulses (receivedEvents bits) = bits.length := by
  rw [receivedEvents_eq, pulses_append, pulses_append, pulses_rxPulseEvents]
  simp [pulses]

theorem lsbFirst_length {w : Nat} (n : Nat) (v : BitVec w) : (lsbFirst n v).length = n := by simp [lsbFirst]

theorem samples_length (s : State) : s.samples.length = 9 := by simp [State.samples]

theorem readEvents_length (c : Command) (s : State) : (readEvents c s.samples).length = 57 := by
  simp [readEvents, beginEvents, endEvents, sentEvents_length, receivedEvents_length, lsbFirst_length, samples_length]

theorem pulses_readEvents (c : Command) (s : State) : pulses (readEvents c s.samples) = 17 := by
  simp only [readEvents, pulses_append, pulses_sentEvents, pulses_receivedEvents, lsbFirst_length, samples_length]
  rfl

/-! ### A read, whole -/

/-- An idle engine accepts the operation that the presented word spells. -/
theorem step_accepts {s : State} {w : Req} {rest : List Req} {i : Instr} (hw : s.presents w rest)
    (hd : decodeWord w = .ok i) : step s = .next (accept i.opcode i.operand s) := by
  obtain ⟨hb, hr⟩ := hw
  rw [step_idle hb hr hd, exec_eq, engineStep_idle hb]

/-- While an operation is carried out, the engine's step is that operation's. -/
theorem step_of_carryingOut {s : State} {i : Instr} {k : Nat} (hs : s.carryingOut i k) : step s = exec i s := by
  obtain ⟨hb, ho, hx, -⟩ := hs
  exact step_busy hb (decodeWord_latched ho hx)

/-- ACCEPT takes no sample. -/
@[simp] theorem accept_samples (o : OpCode) (x : Operand) (s : State) : (accept o x s).samples = s.samples := rfl

@[simp] theorem accept_sampledFrame (o : OpCode) (x : Operand) (s : State) :
    (accept o x s).sampledFrame = s.sampledFrame := rfl

section ReadRun

variable {s : State} {i : Instr} {cmd : Command} {f : Raw → Result}

/-- After ACCEPT a read takes its session's 57 entries, a step each. -/
theorem run_readSession (h : readsAs s.cfg i = some (cmd, f)) (n : Nat) :
    Sys2Proof.core.run (57 + n) (accept i.opcode i.operand s) =
      Sys2Proof.core.run n { runBlock (readSession cmd) (accept i.opcode i.operand s) with upc := 57 } :=
  run_block (readSession cmd) [.post (postOf i)] (accept i.opcode i.operand s) rfl (decodeWord_encode i)
    ((program_read h).trans (readProgram_eq cmd _)) (post_not_mem_readSession cmd) (wait_not_mem_readSession cmd) n

/-- The POST of a read is its last step. -/
theorem run_read_post (h : readsAs s.cfg i = some (cmd, f)) (hs : s.carryingOut i 57) :
    Sys2Proof.core.run 1 s = .next (afterRead f s) := by
  rw [run_succ 0 ((step_of_carryingOut hs).trans (exec_read_post h hs)), run_zero]

end ReadRun

/-- Settles O26: ACCEPT, the session as one block, and the POST. -/
theorem readOperationsWhole : Obligations.ReadOperationsWhole := by
  unfold Obligations.ReadOperationsWhole
  rintro s w rest i c f ⟨hb, hr⟩ hd h
  refine ⟨?_, readEvents_length c s, pulses_readEvents c s⟩
  rw [run_succ 58 (step_accepts ⟨hb, hr⟩ hd), run_readSession h 1, runBlock_readSession]
  refine (run_read_post (i := i) (cmd := c) (f := f) ?_ ?_).trans ?_
  · exact h
  · exact ⟨rfl, rfl, rfl, rfl⟩
  · simp [afterRead, hb, hr]

end Sys2Proof.Proofs
end

section
/-! SUPPORT. The write operations (43_write_ops.md): their POSTs, the frames they send, the session of a write as one
block, and the writes whole. -/

namespace Sys2Proof.Proofs

open Sys2Proof.Machine Sys2Proof.Laws

/-! ### The session of a write -/

/-- The first session of a write operation: the command, `n` bits of a frame, SETTLE (43_write_ops.md R102, R104). -/
def writeSession (c : Command) (n : Nat) (f : Raw) : List MicroOp :=
  beginBlock ++ tx8 c ++ tx n f ++ settleBlock ++ endBlock

/-- A threshold write is one such session with the encoded operand, and a POST that writes no register. -/
theorem program_writesThreshold {c : Config} {i : Instr} {cmd : Command} {x : Operand}
    (h : writesThreshold c i = some (cmd, x)) :
    program c i = writeSession cmd 9 (encodeTh x) ++ [.post (postOf i)] ∧ postOf i = .nothing ∧ i.operand = x := by
  cases i with
  | writeTh | writeTl =>
    cases h
    exact ⟨rfl, rfl, rfl⟩
  | readTemp | readTh | readTl | readCounter | readSlope | readConfig | startConvert | stopConvert | writeConfig =>
    cases h

/-- WRITE_CONFIG of a positive value is one such session with the payload, then the session of a read. -/
theorem program_writeConfig_accepted (c : Config) {x : Operand} (hx : 0 < x.toInt) :
    program c (.writeConfig x) =
      writeSession c.cmdWriteConfig 8 (frame8 (cfgPayload x)) ++ readSession c.cmdReadConfig ++
        [.post (postOf (.writeConfig x))] := by
  have hpost : postOf (.writeConfig x) = .verify := by simp [postOf, configRejected, hx]
  rw [program, progWriteConfig, writeConfigProgram_accepted _ _ hx, hpost]
  simp only [writeSession, readSession, tx8, List.append_assoc]

theorem program_writeConfig_rejected (c : Config) {x : Operand} (hx : x.toInt ≤ 0) :
    program c (.writeConfig x) = [.post (postOf (.writeConfig x))] := by
  have hpost : postOf (.writeConfig x) = .reject := by simp [postOf, configRejected, hx]
  rw [program, progWriteConfig, writeConfigProgram_rejected _ _ hx, hpost]

/-! ### The POST of an operation -/

/-- The state as the POST of an operation leaves it, with the registers that its post-processing writes
(40_primitives.md R70). -/
def afterPost (i : Instr) (s : State) : State := { s with
  result := (applyPost (postOf i) s).result
  status := (applyPost (postOf i) s).status
  busy := false
  done := true
  upc := s.upc + 1
  completions := s.completions ++ [{
    result := (applyPost (postOf i) s).result
    status := (applyPost (postOf i) s).status
    done := true
    fault := s.fault }] }

/-- The last entry of a micro-program completes the operation. -/
theorem exec_post {s : State} {i : Instr} {k : Nat} (hs : s.carryingOut i k) (hk : k + 1 = (program s.cfg i).length) :
    exec i s = .next (afterPost i s) := by
  rw [exec_move hs (program_last hk), microMove_of_ne (by simp), microStep, post_eq]
  rfl

/-- The state as a POST leaves it that writes no result register (`P_NONE`). -/
theorem afterPost_nothing {i : Instr} (hp : postOf i = .nothing) (s : State) : afterPost i s = { s with
    busy := false
    done := true
    upc := s.upc + 1
    completions := s.completions ++ [{ result := s.result, status := s.status, done := true, fault := s.fault }] } := by
  rw [afterPost, hp]
  rfl

/-- The state as WRITE_CONFIG's POST leaves it: `STATUS` alone of the result registers is written
(43_write_ops.md R104). -/
theorem afterPost_writeConfig {s : State} {x : Operand} {v : StatusCode} (hx : s.operand = x)
    (hv : (if x.toInt ≤ 0 then 2#2 else if ((s.sr.toNat % 256 : Nat) : Int) = x.toInt then 0#2 else 1#2) = v) :
    afterPost (.writeConfig x) s = { s with
      status := v
      busy := false
      done := true
      upc := s.upc + 1
      completions := s.completions ++ [{ result := s.result, status := v, done := true, fault := s.fault }] } := by
  rw [afterPost, applyPost_writeConfig_status x hx, hv, applyPost_postOf_result s.cfg rfl]

/-- Settles O22: the four operations end in `P_NONE`. -/
theorem silentPostsWriteNoRegister : Obligations.SilentPostsWriteNoRegister := by
  unfold Obligations.SilentPostsWriteNoRegister
  intro s i x k hi hs
  obtain ⟨hlast, hp⟩ : k + 1 = (program s.cfg i).length ∧ postOf i = .nothing := by
    obtain ⟨rfl | rfl, rfl⟩ | ⟨rfl | rfl, rfl⟩ := hi <;> exact ⟨rfl, rfl⟩
  rw [exec_post hs hlast, afterPost_nothing hp]
  obtain ⟨-, -, -, rfl⟩ := hs
  rfl

/-- Settles O21: the one entry of the micro-program is the rejecting POST. -/
theorem writeConfigRejects : Obligations.WriteConfigRejects := by
  unfold Obligations.WriteConfigRejects
  intro s x hx hs
  have hlast : 0 + 1 = (program s.cfg (.writeConfig x)).length := by
    rw [program_writeConfig_rejected _ hx]
    rfl
  rw [exec_post hs hlast]
  obtain ⟨-, -, hoperand, hupc⟩ := hs
  rw [afterPost_writeConfig (x := x) hoperand (if_pos hx), hupc]

/-- The 111th and last entry of an accepted WRITE_CONFIG is its POST. -/
theorem exec_writeConfig_post {s : State} {x : Operand} (hx : 0 < x.toInt) (hs : s.carryingOut (.writeConfig x) 110) :
    exec (.writeConfig x) s = .next (afterPost (.writeConfig x) s) := by
  have hlast : 110 + 1 = (program s.cfg (.writeConfig x)).length := by
    rw [program_writeConfig_accepted _ hx]
    rfl
  exact exec_post hs hlast

/-- Settles O20: the POST compares with the whole operand, so eight bits never equal one above 255. -/
theorem writeConfigVerifies : Obligations.WriteConfigVerifies := by
  unfold Obligations.WriteConfigVerifies
  refine ⟨fun s x hx hs => ?_, fun s t x hx hs h => ?_⟩
  · rw [exec_writeConfig_post hx hs]
    obtain ⟨-, -, hoperand, hupc⟩ := hs
    rw [afterPost_writeConfig (x := x) hoperand (if_neg hx.not_ge), hupc]
  · rw [exec_writeConfig_post (by omega) hs] at h
    obtain ⟨-, -, hoperand, -⟩ := hs
    obtain rfl := Host.Outcome.next.inj h
    have hne : ((s.sr.toNat % 256 : Nat) : Int) ≠ x.toInt := by omega
    rw [afterPost_writeConfig (x := x) hoperand (if_neg (by omega)), if_neg hne]

/-! ### The frame on the wire -/

/-- The entry 27 + 3k of a program that begins with a write's session sends bit k of the frame. -/
theorem writeSession_dataBit (c : Command) {n : Nat} (hn : n ≤ 9) (f : Raw) (rest : List MicroOp) {k : BitIndex}
    (hk : k.val < n) : (writeSession c n f ++ rest)[27 + 3 * k.val]? = some (.txBit f k) := by
  have hsplit : writeSession c n f ++ rest =
      (beginBlock ++ tx8 c) ++ (tx n f ++ (settleBlock ++ endBlock ++ rest)) := by
    simp only [writeSession, List.append_assoc]
  have hlen : (beginBlock ++ tx8 c).length = 27 := rfl
  have hbits := tx_length hn f
  rw [hsplit, List.getElem?_append_right (by omega), hlen, Nat.add_sub_cancel_left,
    List.getElem?_append_left (by omega), tx_getElem? hn f hk]

/-- The step at a `TXBIT`, whose frame `SR` holds from its first bit on. -/
theorem exec_txBit {s : State} {i : Instr} {j : Nat} {f : Raw} {k : BitIndex} (hs : s.carryingOut i j)
    (hm : (program s.cfg i)[j]? = some (.txBit f k)) (hsr : k ≠ 0 → s.sr = f) :
    exec i s = .next { s with
      sr := f
      dqL := .driven (levelOf (f.getLsbD k.val))
      bitIdx := k
      upc := j + 1
      trace := s.trace ++ [.drive .dq (levelOf (f.getLsbD k.val))] } := by
  rw [exec_move hs hm, microMove_of_ne (by simp), microStep, txBit_eq hsr, advance]
  obtain ⟨-, -, -, hupc⟩ := hs
  rw [hupc]

/-- The encoded threshold as the operand's 16 bits doubled mod 2^9 (41_codec.md R90). -/
theorem encodeTh_eq_ofNat (x : Operand) : encodeTh x = BitVec.ofNat 9 ((2 * x.toNat) % 512) := by
  apply BitVec.eq_of_toNat_eq
  have hframe := encodeTh_toNat x
  rw [BitVec.toInt_eq_toNat_cond] at hframe
  rw [BitVec.toNat_ofNat]
  split at hframe <;> omega

theorem encodeTh_getLsbD_eq_testBit (x : Operand) (k : BitIndex) :
    (encodeTh x).getLsbD k.val = ((2 * x.toNat) % 512).testBit k.val := by
  rw [encodeTh_eq_ofNat, BitVec.getLsbD_ofNat, decide_eq_true k.isLt, Bool.true_and]

/-- Settles O24: the entry 27 + 3k is the `TXBIT` of bit k of the encoded operand. -/
theorem thresholdBitsOnTheWire : Obligations.ThresholdBitsOnTheWire := by
  unfold Obligations.ThresholdBitsOnTheWire
  intro i x s k hi hs hsr
  obtain ⟨c, hc⟩ : ∃ c, writesThreshold s.cfg i = some (c, x) := by
    obtain rfl | rfl := hi <;> exact ⟨_, rfl⟩
  obtain ⟨hprog, -⟩ := program_writesThreshold hc
  have hm : (program s.cfg i)[27 + 3 * k.val]? = some (.txBit (encodeTh x) k) := by
    rw [hprog, writeSession_dataBit c le_rfl _ _ k.isLt]
  rw [← encodeTh_eq_ofNat] at hsr ⊢
  rw [exec_txBit hs hm hsr, encodeTh_getLsbD_eq_testBit, show 27 + 3 * k.val + 1 = 28 + 3 * k.val by omega]
  rfl

/-- The payload is the operand mod 2^8 (41_codec.md R92). -/
theorem payloadFrame_eq_ofNat (x : Operand) : frame8 (cfgPayload x) = BitVec.ofNat 9 (x.toNat % 256) := by
  rw [frame8, cfgPayload, ← lowByte_toNat, BitVec.ofNat_toNat]

theorem payloadFrame_getLsbD (x : Operand) {k : Nat} (hk : k < 8) :
    (frame8 (cfgPayload x)).getLsbD k = x.getLsbD k := by
  simp [frame8, cfgPayload, hk, hk.trans (show 8 < 9 by decide)]

/-- Settles O25: the entry 27 + 3k is the `TXBIT` of bit k of the payload. -/
theorem configPayloadOnTheWire : Obligations.ConfigPayloadOnTheWire := by
  unfold Obligations.ConfigPayloadOnTheWire
  intro x s k hx hk hs hsr
  have hm : (program s.cfg (.writeConfig x))[27 + 3 * k.val]? = some (.txBit (frame8 (cfgPayload x)) k) := by
    rw [program_writeConfig_accepted _ hx, List.append_assoc, writeSession_dataBit _ (by decide) _ _ hk]
  rw [← payloadFrame_eq_ofNat] at hsr ⊢
  rw [exec_txBit hs hm hsr, payloadFrame_getLsbD x hk, show 27 + 3 * k.val + 1 = 28 + 3 * k.val by omega]
  rfl

/-! ### A write on the line -/

/-- The line events of a write's session that sends `bits` after its command (43_write_ops.md R102, R104). -/
def writeEvents (c : Command) (bits : List Bool) (ms : Nat) : List Event :=
  beginEvents ++ sentEvents (lsbFirst 8 c) ++ sentEvents bits ++ [.wait ms] ++ endEvents

theorem writeEvents_length (c : Command) (bits : List Bool) (ms : Nat) :
    (writeEvents c bits ms).length = 29 + 3 * bits.length := by
  simp only [writeEvents, List.length_append, sentEvents_length, lsbFirst_length, beginEvents, endEvents,
    List.length_cons, List.length_nil]
  omega

theorem pulses_writeEvents (c : Command) (bits : List Bool) (ms : Nat) :
    pulses (writeEvents c bits ms) = 8 + bits.length := by
  simp only [writeEvents, pulses_append, pulses_sentEvents, lsbFirst_length]
  simp [pulses, beginEvents, endEvents]

theorem runBlock_settleBlock (s : State) : runBlock settleBlock s = { s with
    trace := s.trace ++ [.wait s.cfg.writeSettleMs]
    waiting := none } := rfl

/-- BEGIN, the command, the frame, the wait and END, one after another. -/
theorem runBlock_writeSession (c : Command) (f : Raw) (s : State) {n : Nat} (hn : n < 9) :
    runBlock (writeSession c (n + 1) f) s = { s with
      rstL := .driven .low
      clkL := .driven .high
      dqL := .driven (levelOf (f.getLsbD n))
      session := .closed
      sr := f
      bitIdx := ⟨n, hn⟩
      waiting := none
      trace := s.trace ++ writeEvents c (lsbFirst (n + 1) f) s.cfg.writeSettleMs } := by
  obtain ⟨htx8, -⟩ := transmissionFrames
  rw [writeSession, runBlock_append, runBlock_append, runBlock_append, runBlock_append, runBlock_beginBlock, htx8,
    runBlock_tx f _ hn, runBlock_settleBlock, runBlock_endBlock]
  simp only [writeEvents, List.append_assoc]

theorem post_not_mem_writeSession (c : Command) (n : Nat) (f : Raw) (p : Post) : .post p ∉ writeSession c n f :=
  (leads_writeSession (.inr rfl) c n f).post_not_mem p

/-- A write waits once. -/
theorem count_wait_writeSession (c : Command) (n : Nat) (f : Raw) : (writeSession c n f).count .wait = 1 := by
  simp [writeSession, beginBlock, tx8, settleBlock, endBlock, List.count_eq_zero_of_not_mem (wait_not_mem_tx _ _)]

theorem readSession_length (c : Command) : (readSession c).length = 57 := rfl

theorem count_wait_readSession (c : Command) : (readSession c).count .wait = 0 :=
  List.count_eq_zero_of_not_mem (wait_not_mem_readSession c)

theorem writeSession_length (c : Command) {n : Nat} (hn : n ≤ 9) (f : Raw) :
    (writeSession c n f).length = 29 + 3 * n := by
  have hcommand : (tx8 c).length = 24 := rfl
  simp only [writeSession, List.length_append, hcommand, tx_length hn, beginBlock, settleBlock, endBlock,
    List.length_cons, List.length_nil]
  omega

/-! ### An operation, whole -/

theorem microStep_busy_of_ne_post {m : MicroOp} (hm : ∀ p, m ≠ .post p) (s : State) :
    (microStep m s).busy = s.busy := by
  obtain h | ⟨p, hp, -⟩ := microStep_busy m s
  · exact h
  · exact absurd hp (hm p)

theorem runBlock_busy_of_not_post {ms : List MicroOp} (hms : ∀ p, MicroOp.post p ∉ ms) (s : State) :
    (runBlock ms s).busy = s.busy := by
  induction ms generalizing s with
  | nil => rfl
  | cons m ms ih =>
    rw [runBlock_cons, ih (fun p hp => hms p (List.mem_cons_of_mem m hp)),
      microStep_busy_of_ne_post fun p h => hms p (h ▸ List.mem_cons_self)]

/-- A micro-operation that is no POST is one step, or two where it is a `WAIT` (log 12). -/
theorem run_microStep {i : Instr} {m : MicroOp} {s : State} (hb : s.busy = true) (hw : s.waiting = none)
    (hd : decodeWord (reqWord s.operand s.op) = .ok i) (hm : (program s.cfg i)[s.upc]? = some m) (n : Nat) :
    Sys2Proof.core.run (n + (1 + if m = .wait then 1 else 0)) s = Sys2Proof.core.run n (advance (microStep m s)) := by
  split
  next h =>
    subst h
    exact run_wait hb hd hm hw n
  next h =>
    have hstep := step_move hb hd hm
    rw [microMove_of_ne h] at hstep
    exact run_succ n hstep

/-- A block with no POST is carried out in one step for each micro-operation, and one more for each `WAIT`. -/
theorem run_lineOperations {i : Instr} (ms rest : List MicroOp) (s : State) (hb : s.busy = true)
    (hw : s.waiting = none) (hd : decodeWord (reqWord s.operand s.op) = .ok i)
    (hprog : (program s.cfg i).drop s.upc = ms ++ rest) (hpost : ∀ p, MicroOp.post p ∉ ms) (n : Nat) :
    Sys2Proof.core.run (n + (ms.length + ms.count .wait)) s =
      Sys2Proof.core.run n { runBlock ms s with upc := s.upc + ms.length } := by
  induction ms generalizing s with
  | nil => simp
  | cons m ms ih =>
    have hm : (program s.cfg i)[s.upc]? = some m := by
      have hhead := congrArg (·[0]?) hprog
      simpa using hhead
    have hbusy : (advance (microStep m s)).busy = true :=
      (microStep_busy_of_ne_post (fun p h => hpost p (h ▸ List.mem_cons_self)) s).trans hb
    have hdrop : (program (advance (microStep m s)).cfg i).drop (advance (microStep m s)).upc = ms ++ rest := by
      simpa [List.drop_drop, Nat.add_comm] using congrArg (List.drop 1) hprog
    have hsteps : n + ((m :: ms).length + (m :: ms).count .wait) =
        n + (ms.length + ms.count .wait) + (1 + if m = .wait then 1 else 0) := by
      simp only [List.length_cons, List.count_cons, beq_iff_eq]
      omega
    rw [hsteps, run_microStep hb hw hd hm, ih _ hbusy (by simpa using microStep_waiting m hw) (by simpa using hd) hdrop
      (fun p hp => hpost p (List.mem_cons_of_mem m hp)), runBlock_advance, runBlock_cons]
    simp [advance, Nat.add_comm, Nat.add_left_comm]

/-- An operation, whole: its ACCEPT, its line operations as one block, its POST. -/
theorem run_operation {s : State} {w : Req} {rest : List Req} {i : Instr} {ops : List MicroOp}
    (hpresents : s.presents w rest) (hw : s.waiting = none) (hd : decodeWord w = .ok i)
    (hprog : program s.cfg i = ops ++ [.post (postOf i)]) (hpost : ∀ p, MicroOp.post p ∉ ops) :
    Sys2Proof.core.run (1 + (ops.length + ops.count .wait) + 1) s =
      .next (afterPost i { runBlock ops (accept i.opcode i.operand s) with upc := ops.length }) := by
  obtain ⟨hcfg, hop, hoperand, -⟩ := runBlock_keeps ops (accept i.opcode i.operand s)
  have hbusy : (runBlock ops (accept i.opcode i.operand s)).busy = true := runBlock_busy_of_not_post hpost _
  have hs : State.carryingOut { runBlock ops (accept i.opcode i.operand s) with upc := ops.length } i ops.length :=
    ⟨hbusy, hop, hoperand, rfl⟩
  have hlast : ops.length + 1 = (program (runBlock ops (accept i.opcode i.operand s)).cfg i).length := by
    rw [hcfg, accept_cfg, hprog, List.length_append, List.length_singleton]
  rw [run_succ _ (step_accepts hpresents hd), run_lineOperations (i := i) ops _ (accept i.opcode i.operand s) rfl hw
    (decodeWord_encode i) hprog hpost, accept_upc, Nat.zero_add,
    run_succ 0 ((step_of_carryingOut hs).trans (exec_post hs hlast)), run_zero]

/-! ### The threshold writes, whole -/

/-- Above its bit 0 the encoded operand holds the operand's low eight bits (41_codec.md R90). -/
theorem encodeTh_getLsbD_succ (x : Operand) {k : Nat} (hk : k < 8) : (encodeTh x).getLsbD (k + 1) = x.getLsbD k := by
  rw [encodeTh_eq_append, BitVec.getLsbD_append, if_neg (by omega), Nat.add_sub_cancel, BitVec.getLsbD_extractLsb',
    decide_eq_true hk, Bool.true_and, Nat.zero_add]

theorem lsbFirst_encodeTh (x : Operand) : lsbFirst 9 (encodeTh x) = false :: lsbFirst 8 x := by
  obtain ⟨-, -, hbit0⟩ := encodeThreshold x
  have htail : ∀ k ∈ List.range 8, (encodeTh x).getLsbD (k + 1) = x.getLsbD k :=
    fun k hk => encodeTh_getLsbD_succ x (List.mem_range.mp hk)
  rw [lsbFirst, List.range_succ_eq_map, List.map_cons, List.map_map, hbit0]
  exact congrArg _ (List.map_congr_left htail)

theorem thresholdWriteEvents_eq (c : Command) (x : Operand) (ms : Nat) :
    thresholdWriteEvents c x ms = writeEvents c (lsbFirst 9 (encodeTh x)) ms := by
  rw [lsbFirst_encodeTh]
  rfl

/-- Settles O27: ACCEPT, the session as one block that waits once, and a POST that writes no result register. -/
theorem thresholdWritesWhole : Obligations.ThresholdWritesWhole := by
  unfold Obligations.ThresholdWritesWhole
  rintro s w rest i c x ⟨hb, hr⟩ hw hd hc
  obtain ⟨hprog, hp, hoperand⟩ := program_writesThreshold hc
  have hbit : (encodeTh x).getLsbD 8 = x.getLsbD 7 := encodeTh_getLsbD_succ x (by decide)
  have hrun := run_operation ⟨hb, hr⟩ hw hd hprog (post_not_mem_writeSession c 9 _)
  rw [count_wait_writeSession, writeSession_length c le_rfl, afterPost_nothing hp,
    runBlock_writeSession c _ _ (n := 8) (by decide), hbit, hoperand] at hrun
  rw [thresholdWriteEvents_eq]
  refine ⟨hrun.trans ?_, ?_, ?_⟩
  · simp [hb, hr, hw, encodeTh_eq_append]
  · rw [writeEvents_length, lsbFirst_length]
  · rw [pulses_writeEvents, lsbFirst_length]

/-! ### WRITE_CONFIG, whole -/

theorem lsbFirst_payloadFrame (x : Operand) : lsbFirst 8 (frame8 (cfgPayload x)) = lsbFirst 8 x :=
  List.map_congr_left fun _ hk => payloadFrame_getLsbD x (List.mem_range.mp hk)

theorem configWriteEvents_eq (c : Command) (x : Operand) (ms : Nat) :
    configWriteEvents c x ms = writeEvents c (lsbFirst 8 (frame8 (cfgPayload x))) ms := by
  rw [lsbFirst_payloadFrame]
  rfl

/-- The session that writes, then the one that reads back: the first takes no sample. -/
theorem runBlock_writeReadSessions (c d : Command) (f : Raw) (s : State) {n : Nat} (hn : n < 9) :
    runBlock (writeSession c (n + 1) f ++ readSession d) s = { s with
      rstL := .driven .low
      clkL := .driven .high
      dqL := .driven (levelOf (d.getLsbD 7))
      dqDir := .output
      session := .closed
      sr := s.sampledFrame
      bitIdx := 8
      responder := s.responder.drop 9
      draws := s.draws + 9
      waiting := none
      trace := s.trace ++ (writeEvents c (lsbFirst (n + 1) f) s.cfg.writeSettleMs ++ readEvents d s.samples) } := by
  rw [runBlock_append, runBlock_writeSession c f s hn, runBlock_readSession, ← List.append_assoc]
  rfl

/-- Settles O28: an accepted value has the two sessions as one block and the verifying POST, a rejected one its POST
alone. -/
theorem writeConfigWhole : Obligations.WriteConfigWhole := by
  unfold Obligations.WriteConfigWhole
  rintro s w rest x ⟨hb, hr⟩ hw hd
  refine ⟨fun hx => ⟨?_, ?_, ?_⟩, fun hx => ?_⟩
  · have hops (p : Post) : .post p ∉ writeSession s.cfg.cmdWriteConfig 8 (frame8 (cfgPayload x)) ++
        readSession s.cfg.cmdReadConfig := by
      simp [post_not_mem_writeSession, post_not_mem_readSession]
    have hrun := run_operation ⟨hb, hr⟩ hw hd (program_writeConfig_accepted s.cfg hx) hops
    rw [List.length_append, writeSession_length _ (by decide), readSession_length, List.count_append,
      count_wait_writeSession, count_wait_readSession, runBlock_writeReadSessions _ _ _ _ (n := 7) (by decide),
      afterPost_writeConfig (x := x) rfl (if_neg hx.not_ge), accept_sampledFrame, accept_samples] at hrun
    rw [configWriteEvents_eq]
    refine hrun.trans ?_
    simp only [accept, hb, hr, hw, Instr.opcode, Instr.operand, List.tail_cons]
  · rw [configWriteEvents_eq, List.length_append, writeEvents_length, readEvents_length, lsbFirst_length]
  · rw [configWriteEvents_eq, pulses_append, pulses_writeEvents, pulses_readEvents, lsbFirst_length]
  · have hrun := run_operation (ops := []) ⟨hb, hr⟩ hw hd (program_writeConfig_rejected s.cfg hx) (by simp)
    rw [afterPost_writeConfig (x := x) rfl (if_pos hx)] at hrun
    refine hrun.trans ?_
    simp [hb, hr, accept, Instr.opcode, Instr.operand]

end Sys2Proof.Proofs
end

section
/-! SUPPORT. The conversion-control operations (44_conversion_ops.md): the command's session as one block, and an
operation that waits for nothing, whole. -/

namespace Sys2Proof.Proofs

open Sys2Proof.Machine Sys2Proof.Laws

/-! ### The session of a command -/

/-- The line operations of a conversion-control operation, its POST left out (44_conversion_ops.md R106). -/
def commandSession (c : Command) : List MicroOp := beginBlock ++ tx8 c ++ endBlock

theorem commandProgram_eq (c : Command) : commandProgram c = commandSession c ++ [.post .nothing] := rfl

/-- A conversion-control operation is one such session, and a POST that writes no register. -/
theorem program_controlsConversion {c : Config} {i : Instr} {cmd : Command} (h : controlsConversion c i = some cmd) :
    program c i = commandSession cmd ++ [.post (postOf i)] ∧ postOf i = .nothing := by
  cases i with
  | startConvert | stopConvert =>
    cases h
    exact ⟨rfl, rfl⟩
  | readTemp | readTh | readTl | readCounter | readSlope | readConfig | writeTh | writeTl | writeConfig => cases h

theorem commandSession_length (c : Command) : (commandSession c).length = 28 := rfl

theorem post_not_mem_commandSession (c : Command) (p : Post) : .post p ∉ commandSession c :=
  (leads_commandSession (.inr rfl) c).post_not_mem p

theorem wait_not_mem_commandSession (c : Command) : .wait ∉ commandSession c := fun h =>
  wait_not_mem_commandProgram c (commandProgram_eq c ▸ List.mem_append_left _ h)

/-- BEGIN, the command and END, one after another. -/
theorem runBlock_commandSession (c : Command) (s : State) : runBlock (commandSession c) s = { s with
    rstL := .driven .low
    clkL := .driven .high
    dqL := .driven (levelOf (c.getLsbD 7))
    session := .closed
    sr := c.setWidth 9
    bitIdx := 7
    trace := s.trace ++ commandEvents c } := by
  obtain ⟨htx8, -⟩ := transmissionFrames
  rw [commandSession, runBlock_append, runBlock_append, runBlock_beginBlock, htx8, runBlock_endBlock]
  simp only [commandEvents, List.append_assoc]

theorem commandEvents_length (c : Command) : (commandEvents c).length = 28 := by
  simp [commandEvents, beginEvents, endEvents, sentEvents_length, lsbFirst_length]

theorem pulses_commandEvents (c : Command) : pulses (commandEvents c) = 8 := by
  simp only [commandEvents, pulses_append, pulses_sentEvents, lsbFirst_length]
  rfl

/-! ### An operation without a `WAIT`, whole -/

/-- The POST of an operation is its last step. -/
theorem run_post {s : State} {i : Instr} {k : Nat} (hs : s.carryingOut i k) (hk : k + 1 = (program s.cfg i).length) :
    Sys2Proof.core.run 1 s = .next (afterPost i s) := by
  rw [run_succ 0 ((step_of_carryingOut hs).trans (exec_post hs hk)), run_zero]

/-- An operation that issues no wait takes a step for its ACCEPT and one for each entry of its program, whether or not a
wait is outstanding when it begins. -/
theorem run_operation_of_wait_not_mem {s : State} {w : Req} {rest : List Req} {i : Instr} {ops : List MicroOp}
    (hpresents : s.presents w rest) (hd : decodeWord w = .ok i) (hprog : program s.cfg i = ops ++ [.post (postOf i)])
    (hpost : ∀ p, MicroOp.post p ∉ ops) (hwait : MicroOp.wait ∉ ops) :
    Sys2Proof.core.run (ops.length + 1 + 1) s =
      .next (afterPost i { runBlock ops (accept i.opcode i.operand s) with upc := ops.length }) := by
  obtain ⟨hcfg, hop, hoperand, -⟩ := runBlock_keeps ops (accept i.opcode i.operand s)
  have hbusy : (runBlock ops (accept i.opcode i.operand s)).busy = true := runBlock_busy_of_not_post hpost _
  rw [run_succ _ (step_accepts hpresents hd), run_block ops _ (accept i.opcode i.operand s) rfl (decodeWord_encode i)
    hprog hpost hwait, accept_upc, Nat.zero_add]
  refine run_post ⟨hbusy, hop, hoperand, rfl⟩ ?_
  rw [hcfg, accept_cfg, hprog, List.length_append, List.length_singleton]

/-! ### The conversion-control operations, whole -/

/-- Settles O29: ACCEPT, the session as one block without a wait, and a POST that writes no result register. -/
theorem conversionOperationsWhole : Obligations.ConversionOperationsWhole := by
  unfold Obligations.ConversionOperationsWhole
  rintro s w rest i c ⟨hb, hr⟩ hd hc
  obtain ⟨hprog, hp⟩ := program_controlsConversion hc
  have hrun := run_operation_of_wait_not_mem ⟨hb, hr⟩ hd hprog (post_not_mem_commandSession c)
    (wait_not_mem_commandSession c)
  rw [commandSession_length, afterPost_nothing hp, runBlock_commandSession] at hrun
  refine ⟨hrun.trans ?_, commandEvents_length c, pulses_commandEvents c⟩
  simp only [accept, hb, hr, List.tail_cons]

end Sys2Proof.Proofs
end

section
/-! SUPPORT. What cannot fail (60_exceptions.md R109): every micro-operation completes, every framed state has a next
one, and every operation under way reaches its POST. -/

namespace Sys2Proof.Proofs

open Sys2Proof.Machine Sys2Proof.Laws

/-! ### Every micro-operation completes -/

/-- A micro-operation other than `WAIT` is one step of its operation. -/
theorem exec_of_ne_wait {s : State} {i : Instr} {k : Nat} {m : MicroOp} (hs : s.carryingOut i k)
    (hm : (program s.cfg i)[k]? = some m) (hne : m ≠ .wait) :
    exec i s = .next { microStep m s with upc := k + 1 } := by
  have ⟨_, _, _, hupc⟩ := hs
  rw [exec_move hs hm, microMove_of_ne hne, advance, microStep_upc, hupc]

/-- With a wait outstanding at a `WAIT`, the operation's step ends it. -/
theorem exec_ends_wait {s : State} {i : Instr} {k : Nat} (hs : s.carryingOut i k)
    (hm : (program s.cfg i)[k]? = some .wait) (hw : s.waiting ≠ none) :
    exec i s = .next { s with waiting := none, upc := k + 1 } := by
  obtain ⟨ms, hms⟩ := Option.ne_none_iff_exists'.mp hw
  have ⟨_, _, _, hupc⟩ := hs
  rw [exec_move hs hm, microMove_wait_end hms, ← hupc]
  rfl

/-- Settles O9: a micro-operation is one move of its operation; a `WAIT` is issued by one and ended by the next. -/
theorem everyMicroOperationCompletes : Obligations.EveryMicroOperationCompletes := by
  unfold Obligations.EveryMicroOperationCompletes
  intro i s k hs hk
  have hm := List.getElem?_eq_getElem hk
  refine ⟨_, hm, exec_of_ne_wait hs hm, fun hwait hnone => ?_, fun hwait => exec_ends_wait hs (hwait ▸ hm)⟩
  rw [hwait] at hm ⊢
  have hissue : exec i s = .next (issueWait s) := by rw [exec_move hs hm, microMove_wait_issue hnone]
  exact ⟨issueWait s, hissue, exec_ends_wait hs hm nofun⟩

/-! ### Every framed state steps -/

/-- An idle engine stays idle, accepts the presented word or raises FAULT_ILLEGAL_OP. -/
theorem step_total_of_idle {s : State} (hb : s.busy = false) : ∃ t, step s = .next t := by
  cases hr : s.requests with
  | nil => exact ⟨_, step_idle_empty hb hr⟩
  | cons w rest =>
    obtain hlt | hge := Nat.lt_or_ge (reqOp w).toNat 0xB
    · exact ⟨_, step_presents ⟨hb, hr⟩ hlt⟩
    · exact ⟨_, step_presents_reserved ⟨hb, hr⟩ hge⟩

/-- Settles O40: an idle engine always steps; a busy framed one has a micro-operation at `UPC`. -/
theorem framedStateSteps : Obligations.FramedStateSteps := by
  unfold Obligations.FramedStateSteps
  intro s hf
  cases hb : s.busy with
  | false => exact step_total_of_idle hb
  | true =>
    obtain ⟨i, hd, hupc, -⟩ := framed_busy hf hb
    exact ⟨_, step_move hb hd (List.getElem?_eq_getElem hupc)⟩

/-! ### How many steps a micro-program takes -/

theorem count_wait_post (p : Post) : [MicroOp.post p].count .wait = 0 := rfl

/-- No micro-program waits more than once. -/
theorem program_count_wait_le (c : Config) (i : Instr) : (program c i).count .wait ≤ 1 := by
  cases i with
  | readTemp | readTh | readTl | readCounter | readSlope | readConfig =>
    exact (List.count_eq_zero_of_not_mem (wait_not_mem_readProgram _ _)).trans_le (Nat.zero_le 1)
  | startConvert | stopConvert =>
    exact (List.count_eq_zero_of_not_mem (wait_not_mem_commandProgram _)).trans_le (Nat.zero_le 1)
  | writeTh | writeTl =>
    rw [(program_writesThreshold rfl).1, List.count_append, count_wait_writeSession, count_wait_post]
  | writeConfig x =>
    obtain hx | hx := le_or_gt x.toInt 0
    · rw [program_writeConfig_rejected c hx, count_wait_post]
      exact Nat.zero_le 1
    · rw [program_writeConfig_accepted c hx, List.count_append, List.count_append, count_wait_writeSession,
        count_wait_readSession, count_wait_post]

/-! ### Every operation ends -/

/-- A block with no POST leaves `FAULT` and the completion records as they were. -/
theorem runBlock_report_of_not_post {ms : List MicroOp} (hms : ∀ p, MicroOp.post p ∉ ms) (s : State) :
    (runBlock ms s).fault = s.fault ∧ (runBlock ms s).completions = s.completions := by
  induction ms generalizing s with
  | nil => exact ⟨rfl, rfl⟩
  | cons m ms ih =>
    obtain ⟨hfault, hcompletions⟩ := ih (fun p hp => hms p (List.mem_cons_of_mem m hp)) (microStep m s)
    have hm : (microStep m s).completions = s.completions := by
      cases m with
      | post p => exact absurd List.mem_cons_self (hms p)
      | _ => rfl
    exact ⟨hfault.trans (microStep_fault m s), hcompletions.trans hm⟩

/-- The operation under way in `s` has ended in `t`, by its POST (40_primitives.md R70). -/
def Ended (s t : State) : Prop :=
  t.busy = false ∧ t.done = true ∧ t.fault = s.fault ∧ t.completions.length = s.completions.length + 1

/-- With no wait outstanding, a busy engine ends its operation in a step for each entry left in its program, and one
more where a `WAIT` is among them. -/
theorem run_ends {s : State} {i : Instr} (hb : s.busy = true) (hw : s.waiting = none)
    (hd : decodeWord (reqWord s.operand s.op) = .ok i) (hupc : s.upc < (program s.cfg i).length) :
    ∃ n t, n ≤ (program s.cfg i).length - s.upc + 1 ∧ Sys2Proof.core.run n s = .next t ∧ Ended s t := by
  obtain ⟨ops, g, hprog, hops, -⟩ := program_shape s.cfg i (f := framingAtReset) (.inl rfl)
  have hle : s.upc ≤ ops.length := by simpa [hprog, Nat.lt_succ_iff] using hupc
  have hdrop : (program s.cfg i).drop s.upc = ops.drop s.upc ++ [.post (postOf i)] := by
    rw [hprog, List.drop_append_of_le_length hle]
  have hpost : ∀ p, MicroOp.post p ∉ ops.drop s.upc := fun p hp => hops.post_not_mem p (List.mem_of_mem_drop hp)
  have hcount : (ops.drop s.upc).count .wait ≤ 1 := by
    refine (List.Sublist.count_le _ ?_).trans (program_count_wait_le s.cfg i)
    rw [hprog]
    exact (List.drop_sublist _ _).trans (List.sublist_append_left _ _)
  obtain ⟨hcfg, hop, hoperand, -⟩ := runBlock_keeps (ops.drop s.upc) s
  obtain ⟨hfault, hcompletions⟩ := runBlock_report_of_not_post hpost s
  obtain ⟨ho, hx⟩ := decodeFields_ok ((decodeWord_reqWord _ _).symm.trans hd)
  have hlast : State.carryingOut { runBlock (ops.drop s.upc) s with upc := s.upc + (ops.drop s.upc).length } i
      (s.upc + (ops.drop s.upc).length) :=
    ⟨(runBlock_busy_of_not_post hpost s).trans hb, hop.trans ho.symm, hoperand.trans hx.symm, rfl⟩
  refine ⟨1 + ((ops.drop s.upc).length + (ops.drop s.upc).count .wait), _, ?_,
    (run_lineOperations _ _ s hb hw hd hdrop hpost 1).trans (run_post hlast ?_), rfl, rfl, hfault, ?_⟩
  · simp only [hprog, List.length_drop, List.length_append, List.length_singleton]
    omega
  · simp [hcfg, hprog, hle]
  · simp [afterPost, hcompletions]

/-- Settles O30: a wait outstanding is ended by one step; from there the rest of the micro-program, which has at most
111 entries and one `WAIT`, is carried out to its POST. -/
theorem everyOperationEnds : Obligations.EveryOperationEnds := by
  unfold Obligations.EveryOperationEnds
  intro s hf hb
  obtain ⟨i, hd, hupc, hwait, -⟩ := framed_busy hf hb
  have hlen := program_length_le s.cfg i
  cases hw : s.waiting with
  | none =>
    obtain ⟨n, t, hn, hrun, hend⟩ := run_ends hb hw hd hupc
    exact ⟨n, t, by omega, hrun, hend⟩
  | some ms =>
    have hm := hwait.resolve_left (by simp [hw])
    have hstep := step_move hb hd hm
    rw [microMove_wait_end hw] at hstep
    obtain ⟨n, t, hn, hrun, hend⟩ := run_ends (s := advance (platformEndsWait s)) (i := i) hb rfl hd
      (program_next hm nofun)
    simp only [advance_cfg, platformEndsWait_cfg, advance_upc, platformEndsWait_upc] at hn
    exact ⟨n + 1, t, by omega, (run_succ n hstep).trans hrun, hend⟩

end Sys2Proof.Proofs
end

section
/-! SUPPORT. Construction (70_reset_and_hazards.md R125, R128): what it leaves, what it refuses, and that what it leaves
meets the invariants; and the counts of micro-operations and line events of every operation (R138). -/

namespace Sys2Proof.Proofs

open Sys2Proof.Machine Sys2Proof.Laws

/-! ### Construction -/

theorem config_wellFormed_iff (c : Config) :
    c.wellFormed = true ↔ c.dqId ≠ c.clkId ∧ c.dqId ≠ c.rstId ∧ c.clkId ≠ c.rstId := by
  simp [Config.wellFormed, and_assoc]

theorem construct_of_wellFormed {c : Config} (h : c.wellFormed = true) : construct c = .next (State.constructed c) :=
  if_pos h

theorem construct_of_not_wellFormed {c : Config} (h : ¬c.wellFormed = true) :
    construct c = .refused .channelsNotDistinct :=
  if_neg h

/-- Settles O36: distinct channels give `State.constructed`, whose fields are the values; two equal ones are no
well-formed binding. -/
theorem constructionValues : Obligations.ConstructionValues := by
  unfold Obligations.ConstructionValues
  refine ⟨fun c hc => ⟨State.constructed c, construct_of_wellFormed hc, ?_⟩, fun c heq => ?_⟩
  · exact ⟨rfl, rfl, rfl, rfl, rfl, rfl, rfl, rfl, rfl, rfl, rfl, rfl, rfl⟩
  · refine construct_of_not_wellFormed fun hc => ?_
    obtain ⟨hdqClk, hdqRst, hclkRst⟩ := (config_wellFormed_iff c).mp hc
    obtain h | h | h := heq
    · exact hdqClk h
    · exact hdqRst h
    · exact hclkRst h

theorem reconstruct_busy {s : State} (hb : s.busy = true) : reconstruct s = .refused .constructWhileBusy := if_pos hb

theorem reconstruct_idle {s : State} (hb : s.busy = false) :
    reconstruct s = .next { State.constructed s.cfg with
      requests := s.requests, responder := s.responder, draws := s.draws } :=
  if_neg (ne_true_of_eq_false hb)

/-- Settles O37: an idle engine's new construction is the first one's state with three fields kept. -/
theorem reconstructionOnlyWhileIdle : Obligations.ReconstructionOnlyWhileIdle := by
  unfold Obligations.ReconstructionOnlyWhileIdle
  exact ⟨fun s => reconstruct_busy, fun s hb => ⟨_, reconstruct_idle hb, rfl, rfl, rfl, rfl, rfl⟩⟩

/-! ### What construction leaves meets the invariants -/

theorem constructed_framed (c : Config) : (State.constructed c).framed = true := framed_of_idle rfl rfl (.inl rfl)

theorem constructed_traceLegal (c : Config) : (State.constructed c).traceLegal = true :=
  (traceLegal_iff _).mpr ⟨[], rfl, rfl⟩

theorem constructed_linesFromTrace (c : Config) : (State.constructed c).linesFromTrace = true :=
  (linesFromTrace_iff _).mpr ⟨rfl, rfl, rfl, rfl, rfl⟩

/-- Settles O38: the default channels are distinct, and every constructed engine meets the invariants. -/
theorem resetMeetsInvariants : Obligations.ResetMeetsInvariants := by
  unfold Obligations.ResetMeetsInvariants
  have hdefault : Config.default.wellFormed = true := by decide
  exact ⟨construct_of_wellFormed hdefault, constructed_framed _, constructed_traceLegal _,
    constructed_linesFromTrace _, by decide⟩

/-! ### Counts of a block -/

theorem eventCounts_append (ms ns : List MicroOp) :
    eventCounts (ms ++ ns) = List.zipWith (· + ·) (eventCounts ms) (eventCounts ns) := by
  simp [eventCounts]

theorem eventCounts_beginBlock : eventCounts beginBlock = [3, 2, 1, 0, 0, 0, 0] := by decide

theorem eventCounts_endBlock : eventCounts endBlock = [1, 1, 0, 0, 0, 0, 0] := by decide

theorem eventCounts_settleBlock : eventCounts settleBlock = [1, 0, 0, 0, 0, 0, 1] := by decide

theorem eventCounts_rx9 : eventCounts rx9 = [29, 0, 18, 0, 2, 9, 0] := by decide

theorem eventCounts_post (p : Post) : eventCounts [.post p] = [1, 0, 0, 0, 0, 0, 0] := rfl

theorem eventCounts_txPulse (f : Raw) (i : BitIndex) : eventCounts (txPulse f i) = [3, 0, 2, 1, 0, 0, 0] := rfl

/-- Each bit sent is one drive of DQ and one clock pulse (40_primitives.md R76). -/
theorem eventCounts_tx {n : Nat} (hn : n ≤ 9) (f : Raw) : eventCounts (tx n f) = [3 * n, 0, 2 * n, n, 0, 0, 0] := by
  induction n with
  | zero => rfl
  | succ n ih =>
    rw [tx_succ hn, eventCounts_append, ih (by omega), eventCounts_txPulse]
    rfl

theorem eventCounts_tx8 (c : Command) : eventCounts (tx8 c) = [24, 0, 16, 8, 0, 0, 0] :=
  eventCounts_tx (by decide) _

/-! ### Counts of a session -/

theorem eventCounts_commandSession (c : Command) : eventCounts (commandSession c) = [28, 3, 17, 8, 0, 0, 0] := by
  simp only [commandSession, eventCounts_append, eventCounts_beginBlock, eventCounts_tx8, eventCounts_endBlock]
  rfl

theorem eventCounts_readSession (c : Command) : eventCounts (readSession c) = [57, 3, 35, 8, 2, 9, 0] := by
  simp only [readSession, eventCounts_append, eventCounts_beginBlock, eventCounts_tx8, eventCounts_rx9,
    eventCounts_endBlock]
  rfl

theorem eventCounts_writeSession (c : Command) {n : Nat} (hn : n ≤ 9) (f : Raw) :
    eventCounts (writeSession c n f) = [29 + 3 * n, 3, 17 + 2 * n, 8 + n, 0, 0, 1] := by
  simp only [writeSession, eventCounts_append, eventCounts_beginBlock, eventCounts_tx8, eventCounts_tx hn,
    eventCounts_settleBlock, eventCounts_endBlock, List.zipWith_cons_cons, List.zipWith_nil_left, List.cons.injEq,
    and_true, true_and]
  omega

/-! ### Counts of an operation (70_reset_and_hazards.md R138) -/

section Program

variable {c : Config} {i : Instr} {cmd : Command}

theorem eventCounts_program_read {f : Raw → Result} (h : readsAs c i = some (cmd, f)) :
    eventCounts (program c i) = [58, 3, 35, 8, 2, 9, 0] := by
  rw [program_read h, readProgram_eq, eventCounts_append, eventCounts_readSession, eventCounts_post]
  rfl

theorem eventCounts_program_writesThreshold {x : Operand} (h : writesThreshold c i = some (cmd, x)) :
    eventCounts (program c i) = [57, 3, 35, 17, 0, 0, 1] := by
  obtain ⟨hprog, -⟩ := program_writesThreshold h
  rw [hprog, eventCounts_append, eventCounts_writeSession _ le_rfl, eventCounts_post]
  rfl

theorem eventCounts_program_controlsConversion (h : controlsConversion c i = some cmd) :
    eventCounts (program c i) = [29, 3, 17, 8, 0, 0, 0] := by
  obtain ⟨hprog, -⟩ := program_controlsConversion h
  rw [hprog, eventCounts_append, eventCounts_commandSession, eventCounts_post]
  rfl

end Program

/-- WRITE_CONFIG of a positive value counts both of its sessions; of any other, its POST alone. -/
theorem eventCounts_program_writeConfig (c : Config) (x : Operand) :
    eventCounts (program c (.writeConfig x)) =
      if opensSession (.writeConfig x) then [111, 6, 68, 24, 2, 9, 1] else [1, 0, 0, 0, 0, 0, 0] := by
  obtain hx | hx := le_or_gt x.toInt 0
  · rw [program_writeConfig_rejected c hx, eventCounts_post, if_neg (by simpa [opensSession] using hx)]
  · rw [program_writeConfig_accepted c hx, eventCounts_append, eventCounts_append,
      eventCounts_writeSession _ (by decide), eventCounts_readSession, eventCounts_post,
      if_pos (by simpa [opensSession] using hx)]
    rfl

/-- Settles O49: each kind of operation has its row of the table, and WRITE_CONFIG one for each form. -/
theorem eventCounts : Obligations.EventCounts := by
  unfold Obligations.EventCounts
  intro c i
  cases i with
  | readTemp | readTh | readTl | readCounter | readSlope | readConfig => exact eventCounts_program_read rfl
  | writeTh | writeTl => exact eventCounts_program_writesThreshold rfl
  | startConvert | stopConvert => exact eventCounts_program_controlsConversion rfl
  | writeConfig x => exact eventCounts_program_writeConfig c x

end Sys2Proof.Proofs
end
